-- ==== Sys2Proof/Word.lean ====
section
/-!
DEFINITION. Words of the 128L and the data types that commands carry: line data, masks, port names,
line port requests (R153), the fourteen counters (R197) and the reset inputs (R198).
-/

namespace Sys2Proof

/-- A word of the register window (R184). -/
abbrev Word32 := BitVec 32
/-- One of the eight protected words of a line (R4). -/
abbrev Word64 := BitVec 64
/-- The 64 bytes of a line on the 512 data signals: byte b in bits 8b to 8b + 7, so word w in bits
64w to 64w + 63 (R4). -/
abbrev LineData := BitVec 512
/-- Byte enables of a demand write: bit b names byte b of the line (R4). -/
abbrev ByteMask := BitVec 64
/-- A set of words of a line: bit w names word w (R7). -/
abbrev WordMask := BitVec 8
/-- A request tag, 0 to 31 (R153). -/
abbrev Tag := BitVec 5
/-- The byte enables of a management bus write (R184). -/
abbrev Enables := BitVec 4

/-- The four line ports (00, External connections). -/
inductive PortId where
  | p0 | p1 | p2 | p3
deriving DecidableEq, Repr

/-- The number n of port Pn. -/
def PortId.index : PortId → Nat
  | .p0 => 0 | .p1 => 1 | .p2 => 2 | .p3 => 3

/-- What a request asks (R153); a READ carries no mask or data. -/
inductive ReqKind where
  | read
  | write (mask : ByteMask) (data : LineData)
deriving DecidableEq, Repr

/-- A line port request (R153). -/
structure Request where
  kind : ReqKind
  tag  : Tag
  line : BitVec 24
deriving DecidableEq, Repr

/-- The two reset inputs (R198). -/
inductive ResetPin where
  | porst | wrst
deriving DecidableEq, Repr

/-- Which operation of an item that has ended completes (R56): a COPY_READ entry of the Open-Line
Table, or the operation at the head of a physical line's list. -/
inductive LateOp where
  | entry (slot : Nat)
  | array (phys : Nat)
deriving DecidableEq, Repr

/-- The fourteen counters in the order of the table of R197. -/
inductive Counter where
  | corrected | uncorrectable | poison | poisonSeen | lostMinor | lostMajor | suspectEvict
  | suspectDrop | patrolLines | patrolSkipped | sweeps | retired | retireFailed | rtqFull
deriving DecidableEq, Repr

/-- All counters, in window order (11.5: at 0C0h + 4k). -/
def Counter.all : List Counter :=
  [.corrected, .uncorrectable, .poison, .poisonSeen, .lostMinor, .lostMajor, .suspectEvict,
   .suspectDrop, .patrolLines, .patrolSkipped, .sweeps, .retired, .retireFailed, .rtqFull]

end Sys2Proof
end

