-- ==== Sys2Proof/Syntax.lean ====
section
/-!
DEFINITION. The commands of the 128L: one constructor per row of spec/opcode_table.json, in the
table's order. A row is an event of the device or of its environment; its operands say which one
(which slot completes, which request is presented, what is written where).
-/

namespace Sys2Proof

/-- The commands. Each constructor's docstring names its row and the rule the table gives for it. -/
inductive Instr where
  /-- POWER_ON_RESET (R198): PORST_N is asserted. -/
  | powerOnReset
  /-- WARM_RESET (R198): WRST_N is asserted. -/
  | warmReset
  /-- RESET_RELEASE (R198): a reset input is deasserted. -/
  | resetRelease (pin : ResetPin)
  /-- REQUEST_ACCEPT (R155): a master presents a request on a port. -/
  | requestAccept (port : PortId) (req : Request)
  /-- GRANT_PORT_HEAD (R164). -/
  | grantPortHead
  /-- GRANT_COPY_READ (R44). -/
  | grantCopyRead
  /-- GRANT_PATROL (R111). -/
  | grantPatrol
  /-- ENTRY_ISSUE (R68) of the entry in a slot of the Open-Line Table. -/
  | entryIssue (slot : Nat)
  /-- DEMAND_READ_COMPLETE (R70). -/
  | demandReadComplete (slot : Nat)
  /-- PARTIAL_WRITE_READ_COMPLETE (R76). -/
  | partialWriteReadComplete (slot : Nat)
  /-- DEMAND_WRITE_COMPLETE (R75). -/
  | demandWriteComplete (slot : Nat)
  /-- RMW_POISON_WRITE_COMPLETE (R77). -/
  | rmwPoisonWriteComplete (slot : Nat)
  /-- SOURCE_WRITE_COMPLETE (R60). -/
  | sourceWriteComplete (slot : Nat)
  /-- WRITEBACK_COMPLETE (R71). -/
  | writebackComplete (slot : Nat)
  /-- PATROL_READ_COMPLETE (R113). -/
  | patrolReadComplete (slot : Nat)
  /-- SCRUB_WRITE_COMPLETE (R114). -/
  | scrubWriteComplete (slot : Nat)
  /-- COPY_READ_COMPLETE (R45). `waiterFirst` says which of the two orders of R62 is taken between
  the issue of the entry that waited on the copy read and the issue of the target write. -/
  | copyReadComplete (slot : Nat) (waiterFirst : Bool)
  /-- TARGET_WRITE_COMPLETE (R47). -/
  | targetWriteComplete
  /-- VERIFY_COMPLETE (R48). -/
  | verifyComplete
  /-- LATE_COMPLETION (R56). -/
  | lateCompletion (op : LateOp)
  /-- ITEM_START (R41). -/
  | itemStart
  /-- PATROL_TIMER_EXPIRY (R107). -/
  | patrolTimerExpiry
  /-- FILL_WRITE_ISSUE (R172). -/
  | fillWriteIssue
  /-- FILL_WRITE_COMPLETE (R172) of the fill write of a logical line. -/
  | fillWriteComplete (line : Nat)
  /-- INIT_FILL_END (R173). -/
  | initFillEnd
  /-- DRAIN_COMPLETE (R177). -/
  | drainComplete
  /-- HALTED_STOP_COMPLETE (R178). -/
  | haltedStopComplete
  /-- INIT (R171): 1 is written to CMD_CODE. -/
  | init
  /-- START (R175): 2 is written to CMD_CODE. -/
  | start
  /-- STOP (R176): 3 is written to CMD_CODE. -/
  | stop
  /-- SET_REGION (R143): 4 is written to CMD_CODE. -/
  | setRegion
  /-- CLEAR_REGION (R144): 5 is written to CMD_CODE. -/
  | clearRegion
  /-- RETIRE (R194): 6 is written to CMD_CODE. -/
  | retire
  /-- RELEASE (R195): 7 is written to CMD_CODE. -/
  | release
  /-- LOAD_REMAP (R36): 8 is written to CMD_CODE. -/
  | loadRemap
  /-- MARK_SPARE_BAD (R37): 9 is written to CMD_CODE. -/
  | markSpareBad
  /-- SCRUB (R116): 10 is written to CMD_CODE. -/
  | scrub
  /-- INJECT (R196): 11 is written to CMD_CODE. -/
  | inject
  /-- CLEAR_SUSPECTS (R99): 12 is written to CMD_CODE. -/
  | clearSuspects
  /-- UNKNOWN_COMMAND (R189): a value that is no code is written to CMD_CODE. -/
  | unknownCommand (code : Word32)
  /-- COMMAND_REFUSED (R190): CMD_CODE is written while the slot is busy. -/
  | commandRefused (code : Word32)
  /-- ARRAY_CFG_WRITE (R1). -/
  | arrayCfgWrite (be : Enables) (value : Word32)
  /-- SUSPECT_CFG_WRITE (R97). -/
  | suspectCfgWrite (be : Enables) (value : Word32)
  /-- PATROL_CFG_WRITE (R115). -/
  | patrolCfgWrite (be : Enables) (value : Word32)
  /-- IRQ_CAUSE_WRITE (R137). -/
  | irqCauseWrite (be : Enables) (value : Word32)
  /-- IRQ_ENABLE_WRITE (R138). -/
  | irqEnableWrite (be : Enables) (value : Word32)
  /-- CMD_STATUS_WRITE (R191). -/
  | cmdStatusWrite (be : Enables) (value : Word32)
  /-- REC_POP (R132). -/
  | recPop (be : Enables) (value : Word32)
  /-- COUNTER_CLEAR (R197): a write to a counter's window word. -/
  | counterClear (counter : Counter) (be : Enables) (value : Word32)
  /-- REGISTER_WRITE (R185): a write to any word of the window, by its offset. -/
  | registerWrite (offset : BitVec 12) (be : Enables) (value : Word32)
  /-- ARRAY_CELL_FAULT (R6): bits of one stored word of a physical line are put in error, data bits
  in positions 0 to 63 and check bits in 64 to 71. -/
  | arrayCellFault (phys : Nat) (word : Nat) (bits : BitVec 72)
deriving DecidableEq, Repr

/-- The row's mnemonic in spec/opcode_table.json. -/
def Instr.mnemonic : Instr → String
  | .powerOnReset => "POWER_ON_RESET"
  | .warmReset => "WARM_RESET"
  | .resetRelease _ => "RESET_RELEASE"
  | .requestAccept _ _ => "REQUEST_ACCEPT"
  | .grantPortHead => "GRANT_PORT_HEAD"
  | .grantCopyRead => "GRANT_COPY_READ"
  | .grantPatrol => "GRANT_PATROL"
  | .entryIssue _ => "ENTRY_ISSUE"
  | .demandReadComplete _ => "DEMAND_READ_COMPLETE"
  | .partialWriteReadComplete _ => "PARTIAL_WRITE_READ_COMPLETE"
  | .demandWriteComplete _ => "DEMAND_WRITE_COMPLETE"
  | .rmwPoisonWriteComplete _ => "RMW_POISON_WRITE_COMPLETE"
  | .sourceWriteComplete _ => "SOURCE_WRITE_COMPLETE"
  | .writebackComplete _ => "WRITEBACK_COMPLETE"
  | .patrolReadComplete _ => "PATROL_READ_COMPLETE"
  | .scrubWriteComplete _ => "SCRUB_WRITE_COMPLETE"
  | .copyReadComplete _ _ => "COPY_READ_COMPLETE"
  | .targetWriteComplete => "TARGET_WRITE_COMPLETE"
  | .verifyComplete => "VERIFY_COMPLETE"
  | .lateCompletion _ => "LATE_COMPLETION"
  | .itemStart => "ITEM_START"
  | .patrolTimerExpiry => "PATROL_TIMER_EXPIRY"
  | .fillWriteIssue => "FILL_WRITE_ISSUE"
  | .fillWriteComplete _ => "FILL_WRITE_COMPLETE"
  | .initFillEnd => "INIT_FILL_END"
  | .drainComplete => "DRAIN_COMPLETE"
  | .haltedStopComplete => "HALTED_STOP_COMPLETE"
  | .init => "INIT"
  | .start => "START"
  | .stop => "STOP"
  | .setRegion => "SET_REGION"
  | .clearRegion => "CLEAR_REGION"
  | .retire => "RETIRE"
  | .release => "RELEASE"
  | .loadRemap => "LOAD_REMAP"
  | .markSpareBad => "MARK_SPARE_BAD"
  | .scrub => "SCRUB"
  | .inject => "INJECT"
  | .clearSuspects => "CLEAR_SUSPECTS"
  | .unknownCommand _ => "UNKNOWN_COMMAND"
  | .commandRefused _ => "COMMAND_REFUSED"
  | .arrayCfgWrite _ _ => "ARRAY_CFG_WRITE"
  | .suspectCfgWrite _ _ => "SUSPECT_CFG_WRITE"
  | .patrolCfgWrite _ _ => "PATROL_CFG_WRITE"
  | .irqCauseWrite _ _ => "IRQ_CAUSE_WRITE"
  | .irqEnableWrite _ _ => "IRQ_ENABLE_WRITE"
  | .cmdStatusWrite _ _ => "CMD_STATUS_WRITE"
  | .recPop _ _ => "REC_POP"
  | .counterClear _ _ _ => "COUNTER_CLEAR"
  | .registerWrite _ _ _ => "REGISTER_WRITE"
  | .arrayCellFault _ _ _ => "ARRAY_CELL_FAULT"

end Sys2Proof
end

