-- ==== Sys2Proof/WellFormed.lean ====
section
/-!
DEFINITION. When a command is well formed: its operands lie in the ranges the spec gives them.
Ranges that depend on the array size in use are tests of the meanings, not of this file.
-/

namespace Sys2Proof

/-- The Open-Line Table has slots 0 to 7 (R64). -/
def slotOk (slot : Nat) : Bool := decide (slot < 8)

/-- A physical line of the largest array (R1, R2). -/
def physOk (phys : Nat) : Bool := decide (phys < 2 ^ 24)

/-- The twelve command codes are 1 to 12 (R193). -/
def isCode (code : Word32) : Bool := decide (1 ≤ code.toNat ∧ code.toNat ≤ 12)

/-- A word-aligned offset of the window (R184). -/
def offsetOk (offset : BitVec 12) : Bool := decide (offset.toNat % 4 = 0)

/-- The operands of a command lie in their ranges. -/
def Instr.wf : Instr → Bool
  | .powerOnReset => true
  | .warmReset => true
  | .resetRelease _ => true
  | .requestAccept _ _ => true
  | .grantPortHead => true
  | .grantCopyRead => true
  | .grantPatrol => true
  | .entryIssue slot => slotOk slot
  | .demandReadComplete slot => slotOk slot
  | .partialWriteReadComplete slot => slotOk slot
  | .demandWriteComplete slot => slotOk slot
  | .rmwPoisonWriteComplete slot => slotOk slot
  | .sourceWriteComplete slot => slotOk slot
  | .writebackComplete slot => slotOk slot
  | .patrolReadComplete slot => slotOk slot
  | .scrubWriteComplete slot => slotOk slot
  | .copyReadComplete slot _ => slotOk slot
  | .targetWriteComplete => true
  | .verifyComplete => true
  | .lateCompletion (.entry slot) => slotOk slot
  | .lateCompletion (.array phys) => physOk phys
  | .itemStart => true
  | .patrolTimerExpiry => true
  | .fillWriteIssue => true
  | .fillWriteComplete line => decide (line < 2 ^ 24 - 128)
  | .initFillEnd => true
  | .drainComplete => true
  | .haltedStopComplete => true
  | .init => true
  | .start => true
  | .stop => true
  | .setRegion => true
  | .clearRegion => true
  | .retire => true
  | .release => true
  | .loadRemap => true
  | .markSpareBad => true
  | .scrub => true
  | .inject => true
  | .clearSuspects => true
  | .unknownCommand code => !isCode code
  | .commandRefused _ => true
  | .arrayCfgWrite _ _ => true
  | .suspectCfgWrite _ _ => true
  | .patrolCfgWrite _ _ => true
  | .irqCauseWrite _ _ => true
  | .irqEnableWrite _ _ => true
  | .cmdStatusWrite _ _ => true
  | .recPop _ _ => true
  | .counterClear _ _ _ => true
  | .registerWrite offset _ _ => offsetOk offset
  | .arrayCellFault phys word bits => physOk phys && decide (word < 8) && decide (bits ≠ 0#72)

end Sys2Proof
end

