-- ==== Sys2Proof/Config.lean ====
section
/-!
DEFINITION. The free values of the model: constants without a body, so that nothing can be proved of
the values the spec leaves open.
-/

namespace Sys2Proof

/-- The word outcome (0 CLEAN, 1 SINGLE, 2 MULTI, 3 POISON) of reading word `w` of a line that nothing has
written since power-on, in the read made when n array operations have completed (R16: "any word outcomes"). Log entry 8. -/
opaque Config.undefinedOutcome (n w : Nat) : BitVec 2

/-- The data returned for that word (R16: "any data"). Log entry 8. -/
opaque Config.undefinedData (n w : Nat) : Word64

/-- The raw data bits returned by an undecoded read of that word (R16: "a raw read may return any data").
Log entry 8. -/
opaque Config.undefinedRaw (n w : Nat) : Word64

/-- The outcome of decoding a word with so many bits in error that R6 lets it "decode as any of the four
outcomes": a function of what was stored (poison or data, its data bits, the bits in error), since R6 gives a
word's outcome by its stored 72 bits. Log entry 7. -/
opaque Config.heavyOutcome (poison : Bool) (base : Word64) (errs : BitVec 72) : BitVec 2

/-- The bit position that such a word's syndrome matches when it decodes as SINGLE (R6). Log entry 7. -/
opaque Config.heavyPosition (poison : Bool) (base : Word64) (errs : BitVec 72) : BitVec 7

end Sys2Proof
end

