-- ==== Sys2Proof/Machine/State.lean ====
section
/-!
DEFINITION. The state of the 128L as plain data, block by block, its reset values, and the reasons a
step can stop. Every field names the rule of spec/ that gives it.
-/

namespace Sys2Proof.Machine

/-- Why a step stops with a fault. -/
inductive Fault where
  /-- ARRAY_CELL_FAULT names a cell that does not exist: a physical line at or above ARRAY_LINES (R2) or a
  word above 7 (R4). Raised by execArrayCellFault only. Safe: no such cell can fail. -/
  | noSuchCell
deriving DecidableEq, Repr

/-- Why a step is refused. -/
inductive Refusal where
  /-- The command has no meaning in this model. Raised by no arm of exec: every row has its meaning. Safe. -/
  | notModelled (mnemonic : String)
deriving DecidableEq, Repr

/-! ## The external array and the Array Interface (R1 to R16) -/

/-- The five array sizes (R1). -/
inductive ArraySize where
  | s20 | s21 | s22 | s23 | s24
deriving DecidableEq, Repr

/-- A place that is a physical line (R3). -/
inductive Loc where
  | home
  | spare (n : Nat)
deriving DecidableEq, Repr

/-- Where a logical line's data lives (R21): at a location of the array, or in the COPY BUFFER. -/
inductive Place where
  | loc (l : Loc)
  | copyBuffer
deriving DecidableEq, Repr

/-- The outcome of decoding one word (R6). -/
inductive WordOutcome where
  | clean | single | multi | poison
deriving DecidableEq, Repr

/-- The outcome of decoding a line (R7). -/
inductive LineOutcome where
  | clean | corrected | uncorrectable | poisoned
deriving DecidableEq, Repr

/-- The check class of a region or of granted work (R8, R140). -/
inductive CheckClass where
  | checked | unchecked
deriving DecidableEq, Repr

/-- What the last write to a physical line stored: data with valid check bits, or poison in all eight
words (R5). -/
inductive Written where
  | data (d : LineData)
  | poison
deriving DecidableEq, Repr

/-- The stored contents of a physical line (R4): what was written, and which of its 8 x 72 stored bits are in
error, word w in positions 72w to 72w + 71, of which 64 data bits and then 8 check bits. Log entry 6. -/
structure StoredLine where
  written : Written
  errs    : BitVec 576
deriving DecidableEq, Repr

/-- The external array by physical line, keys strictly rising; an unlisted line has undefined contents (R16). -/
abbrev Memory := List (Nat × StoredLine)

/-- The canonical form of the array's contents: keys strictly rising (so each line is listed once). -/
def Memory.wf : Memory → Bool
  | [] => true
  | [_] => true
  | a :: b :: m => decide (a.1 < b.1) && Memory.wf (b :: m)

/-- The three operations of the Array Interface (R9), with what each carries. -/
inductive ArrayOpKind where
  | readLine (decoded : Bool)
  | writeLine (contents : StoredLine)
  | writePoison
deriving DecidableEq, Repr

/-- Who issued an array operation (R9): the Line Engine for an entry, the Copy Unit for an item (R40), or
the Controller's fill (R172). -/
inductive Issuer where
  | engine (slot : Nat)
  | copyUnit (item : BitVec 16)
  | controller
deriving DecidableEq, Repr

/-- The record kept for an issued operation (R9). -/
structure ArrayOp where
  kind   : ArrayOpKind
  phys   : Nat
  line   : Nat
  issuer : Issuer
deriving DecidableEq, Repr

/-- The armed injection (R14). -/
structure Injection where
  line : Nat
  word : Nat
  bits : Nat
deriving DecidableEq, Repr

/-- The Array Interface and the array behind it. -/
structure ArrayIf where
  /-- ARRAY_LINES (R1). -/
  size : ArraySize
  /-- Issued operations in issue order; the list of one physical line is its part of it (R9, R12). -/
  ops : List ArrayOp
  /-- The armed injection (R14). -/
  injection : Option Injection
  /-- The stored contents (R4 to R6, R16). -/
  mem : Memory
deriving DecidableEq, Repr

/-! ## Line Remap Table and Spare Pool (R17 to R39) -/

/-- Who began an entry's most recent move or release (R17). -/
inductive RemapOrigin where
  | suspect | uePolicy | command | restore
deriving DecidableEq, Repr

/-- The states of a remap entry with the fields present in each (R17). -/
inductive RemapState where
  | active (current : Nat) (moves : Nat)
  | copying (target : Nat)
  | moving (current : Nat) (target : Nat) (moves : Nat)
  | releasing (current : Nat) (moves : Nat)
deriving DecidableEq, Repr

/-- A remap entry (R17). -/
structure RemapEntry where
  line   : Nat
  state  : RemapState
  origin : RemapOrigin
deriving DecidableEq, Repr

/-- The Line Remap Table: 128 slots (R18) and the generation counter (R23). -/
structure RemapTable where
  slots : List (Option RemapEntry)
  gen   : BitVec 16
deriving DecidableEq, Repr

/-- The state of a spare (R25). -/
inductive SpareState where
  | free | held | bad
deriving DecidableEq, Repr

/-- The Spare Pool: one state per spare number (R25) and SPARES_LOW_LEVEL (R29). -/
structure SparePool where
  spares   : List SpareState
  lowLevel : Nat
deriving DecidableEq, Repr

/-! ## Copy Unit and Retirement Queue (R40 to R63, R100 to R104) -/

/-- What a queued item asks (R100). -/
inductive ItemAction where
  | move | release
deriving DecidableEq, Repr

/-- Who offered an item (R100). -/
inductive ItemOrigin where
  | suspect | uePolicy | command
deriving DecidableEq, Repr

/-- An item of the Retirement Queue (R100), and the Copy Unit's current item (R40). -/
structure RetireItem where
  line    : Nat
  action  : ItemAction
  origin  : ItemOrigin
  command : Bool
deriving DecidableEq, Repr

/-- The Copy Unit's states (R40). -/
inductive CopyState where
  | idle | readSource | writeTarget | verify
deriving DecidableEq, Repr

/-- The outcome a verify read must have (R40, R46). -/
inductive Expected where
  | clean | poisoned
deriving DecidableEq, Repr

/-- The copy buffer (R40). -/
structure CopyBuffer where
  data   : LineData
  poison : Bool
  valid  : Bool
deriving DecidableEq, Repr

/-- The Copy Unit (R40). -/
structure CopyUnit where
  state    : CopyState
  item     : Option RetireItem
  buffer   : CopyBuffer
  dirty    : Bool
  rewrites : Option Nat
  hold     : Bool
  attempts : Option Nat
  expected : Option Expected
  itemNo   : BitVec 16
deriving DecidableEq, Repr

/-! ## The Open-Line Table and the policies (R64 to R88) -/

/-- The kinds of Open-Line Table entry with the fields present in each (R64); a COPY_READ carries the
number of its item (R40). -/
inductive Work where
  | demandRead (port : PortId) (tag : Tag)
  | demandWrite (port : PortId) (tag : Tag) (mask : ByteMask) (data : LineData)
  | patrol
  | copyRead (item : BitVec 16)
deriving DecidableEq, Repr

/-- What a BLOCKED entry waits on (R64): an older entry of its line, the copy hold (R69), or nothing any
more, when its turn has come and ENTRY_ISSUE is due (R67; log entry 3). -/
inductive WaitsOn where
  | entry (slot : Nat)
  | copyHold
  | turn
deriving DecidableEq, Repr

/-- The states of an Open-Line Table entry (R65). -/
inductive EntryState where
  | blocked (on : WaitsOn)
  | reading
  | writing
  | writeback
deriving DecidableEq, Repr

/-- The read result kept in an entry (R64, R76). -/
structure EntryResult where
  outcome   : LineOutcome
  corrected : WordMask
deriving DecidableEq, Repr

/-- An Open-Line Table entry (R64). -/
structure OpenEntry where
  work   : Work
  line   : Nat
  cls    : CheckClass
  place  : Option Place
  state  : EntryState
  result : Option EntryResult
deriving DecidableEq, Repr

/-- The Open-Line Table: eight slots (R64) and the slots of its entries in grant order, oldest first (R66,
R168; log entry 16). -/
structure OpenTable where
  slots : List (Option OpenEntry)
  order : List Nat
deriving DecidableEq, Repr

/-- POLICY (R84). -/
structure Policy where
  writebackOnCorrect : Bool
  retireOnUe         : Bool
  haltOnUe           : Bool
  poisonOnUe         : Bool
deriving DecidableEq, Repr

/-! ## Suspect List (R89 to R99) -/

/-- A suspect entry (R89). -/
structure Suspect where
  line    : Nat
  place   : Loc
  count   : Nat
  mask    : WordMask
  waiting : Bool
deriving DecidableEq, Repr

/-- The Suspect List, head (least recently updated) first, and SUSPECT_THRESHOLD (R89, R97). -/
structure SuspectList where
  entries   : List Suspect
  threshold : Nat
deriving DecidableEq, Repr

/-! ## Patrol Unit (R105 to R121) -/

/-- The Patrol Unit's states (R105). -/
inductive PatrolState where
  | off | waiting | issuing | inFlight
deriving DecidableEq, Repr

/-- The activity, and the owner of a line (R105). -/
inductive Activity where
  | background | scrub
deriving DecidableEq, Repr

/-- PATROL_MODE (R105, R106). -/
inductive PatrolMode where
  | off | single | continuous
deriving DecidableEq, Repr

/-- The candidate line and its owner (R105). -/
structure PatrolLine where
  line  : Nat
  owner : Activity
deriving DecidableEq, Repr

/-- A targeted scrub in progress: its range and its cursor (R105, R116). -/
structure ScrubRange where
  first  : Nat
  last   : Nat
  cursor : Nat
deriving DecidableEq, Repr

/-- The Patrol Unit (R105). -/
structure PatrolUnit where
  state     : PatrolState
  activity  : Activity
  mode      : PatrolMode
  interval  : Nat
  /-- Stopped, or running with the interval it was started with (R107). -/
  timer     : Option Nat
  cursor    : Nat
  visited   : Bool
  sweep     : BitVec 16
  candidate : Option PatrolLine
  scrub     : Option ScrubRange
deriving DecidableEq, Repr

/-! ## Error Record Queue and Interrupt Unit (R122 to R139) -/

/-- The twelve record kinds (R123). -/
inductive RecordKind where
  | corrected | accessDenied | sweepDone | uncorrectable | poisonHit | retired | released
  | retireFailed | releaseFailed | spareBad | spareExhausted | halted
deriving DecidableEq, Repr

/-- The source of a record (R122). -/
inductive RecordSource where
  | port (p : PortId)
  | patrol | scrub | copy | command | controller
deriving DecidableEq, Repr

/-- Why an access was refused (R146). -/
inductive DenyReason where
  | unmapped | port | writeProtect
deriving DecidableEq, Repr

/-- The detail of a record, by kind (R122). -/
inductive Detail where
  | denied (reason : DenyReason)
  | poisonedFlag (set : Bool)
  | sweepNumber (n : BitVec 16)
deriving DecidableEq, Repr

/-- A record (R122). -/
structure Record where
  seq     : BitVec 16
  kind    : RecordKind
  source  : RecordSource
  line    : Option Nat
  place   : Option Loc
  spare   : Option Nat
  mask    : Option WordMask
  repeats : Option Nat
  detail  : Option Detail
deriving DecidableEq, Repr

/-- The Error Record Queue, head first, and the next-sequence number (R125). -/
structure RecordQueue where
  records : List Record
  nextSeq : BitVec 16
deriving DecidableEq, Repr

/-- The six latched causes (R136). -/
structure Latches where
  major     : Bool
  lost      : Bool
  cmdDone   : Bool
  halted    : Bool
  sparesLow : Bool
  sweep     : Bool
deriving DecidableEq, Repr

/-- The Interrupt Unit: latched causes (R136) and the seven enables (R138). -/
structure Interrupts where
  latched      : Latches
  enableRecord : Bool
  enable       : Latches
deriving DecidableEq, Repr

/-! ## Region Table (R140 to R152) -/

/-- The fields of a valid region (R140), which are also the staging fields (R142). -/
structure Region where
  base         : Nat
  limit        : Nat
  cls          : CheckClass
  writeProtect : Bool
  patrol       : Bool
  readMask     : BitVec 4
  writeMask    : BitVec 4
deriving DecidableEq, Repr

/-- The Region Table: eight entries, none when not valid (R140), and the staging fields (R142). -/
structure RegionTable where
  entries : List (Option Region)
  stage   : Region
deriving DecidableEq, Repr

/-! ## Line ports and Grant Arbiter (R153 to R169) -/

/-- One port: its request queue, head first, and its outstanding tags (R154). -/
structure Port where
  queue : List Request
  tags  : List Tag
deriving DecidableEq, Repr

/-- The four ports (R154). -/
structure Ports where
  p0 : Port
  p1 : Port
  p2 : Port
  p3 : Port
deriving DecidableEq, Repr

/-- The Grant Arbiter: round-robin pointer and patrol wait count (R160). -/
structure Arbiter where
  pointer    : PortId
  patrolWait : Nat
deriving DecidableEq, Repr

/-- The status of a response (R82). -/
inductive RespStatus where
  | ok | corrected | dataError | poisoned | denied | unmapped | notReady | halted | tagBusy
deriving DecidableEq, Repr

/-- A response on a port's response channel (R82, R157); a response to a write has no data. -/
structure Response where
  port   : PortId
  tag    : Tag
  status : RespStatus
  data   : Option LineData
  mask   : WordMask
deriving DecidableEq, Repr

/-! ## Controller and command slot (R170 to R198) -/

/-- The controller states (R170). -/
inductive CtlState where
  | uninit | initializing | stopped | running | draining | halted
deriving DecidableEq, Repr

/-- HALT_REASON (R170). -/
inductive HaltReason where
  | none | ueOnDemand
deriving DecidableEq, Repr

/-- The Controller (R170). -/
structure Controller where
  state        : CtlState
  haltReason   : HaltReason
  initProgress : Nat
deriving DecidableEq, Repr

/-- The twelve maintenance commands (R193). -/
inductive Command where
  | init | start | stop | setRegion | clearRegion | retire | release | loadRemap | markSpareBad
  | scrub | inject | clearSuspects
deriving DecidableEq, Repr

/-- The results of CMD_STATUS (R187, 11.5). -/
inductive CmdResult where
  | none | done | wrongState | badArgument | overlap | failed | noSpare | aborted | queueFull
  | alreadyPending | notRemapped | remapped | spareNotFree | unknown
deriving DecidableEq, Repr

/-- The command in progress with the argument values it took (R187). -/
structure RunningCommand where
  command : Command
  arg0 : Word32
  arg1 : Word32
  arg2 : Word32
deriving DecidableEq, Repr

/-- The command slot (R187); it is busy while a command is in progress. -/
structure CommandSlot where
  running : Option RunningCommand
  result  : CmdResult
  refused : Bool
  arg0 : Word32
  arg1 : Word32
  arg2 : Word32
deriving DecidableEq, Repr

/-- The fourteen counters (R197). -/
structure Counters where
  corrected     : Word32
  uncorrectable : Word32
  poison        : Word32
  poisonSeen    : Word32
  lostMinor     : Word32
  lostMajor     : Word32
  suspectEvict  : Word32
  suspectDrop   : Word32
  patrolLines   : Word32
  patrolSkipped : Word32
  sweeps        : Word32
  retired       : Word32
  retireFailed  : Word32
  rtqFull       : Word32
deriving DecidableEq, Repr

/-- The reset inputs: set while asserted (R198). -/
structure ResetPins where
  porst : Bool
  wrst  : Bool
deriving DecidableEq, Repr

/-! ## The whole state -/

/-- The state of the 128L, block by block. -/
structure State where
  pins     : ResetPins
  aif      : ArrayIf
  lrt      : RemapTable
  pool     : SparePool
  copy     : CopyUnit
  olt      : OpenTable
  policy   : Policy
  suspects : SuspectList
  rtq      : List RetireItem
  patrol   : PatrolUnit
  erq      : RecordQueue
  irq      : Interrupts
  regions  : RegionTable
  ports    : Ports
  arbiter  : Arbiter
  ctl      : Controller
  cmd      : CommandSlot
  counters : Counters
  /-- The responses presented in the step just taken, in order (R157; log entry 10). -/
  responses : List Response
  /-- The model's own: how many array operations have completed, the argument of the free values of undefined
  contents (log entries 8 and 24). -/
  freeReads : Nat
  /-- The commands that wait, first in, first out (log entry 1). -/
  pending  : List Instr
deriving DecidableEq, Repr

/-! ## Reset values -/

/-- The staging fields after power-on (R142). -/
def Region.zero : Region :=
  { base := 0, limit := 0, cls := .checked, writeProtect := false, patrol := false,
    readMask := 0, writeMask := 0 }

/-- A port after reset (R169). -/
def Port.empty : Port := { queue := [], tags := [] }

/-- All latches clear; also all enables off (R139). -/
def Latches.clear : Latches :=
  { major := false, lost := false, cmdDone := false, halted := false, sparesLow := false,
    sweep := false }

/-- The Copy Unit after either reset (R40). -/
def CopyUnit.reset : CopyUnit :=
  { state := .idle, item := none, buffer := { data := 0, poison := false, valid := false },
    dirty := false, rewrites := none, hold := false, attempts := none, expected := none, itemNo := 0 }

/-- The Open-Line Table after either reset (R64, R87). -/
def OpenTable.empty : OpenTable := { slots := List.replicate 8 none, order := [] }

/-- POLICY after either reset (R84). -/
def Policy.reset : Policy :=
  { writebackOnCorrect := false, retireOnUe := false, haltOnUe := false, poisonOnUe := true }

/-- The Suspect List after either reset (R89, R97). -/
def SuspectList.reset : SuspectList := { entries := [], threshold := 4 }

/-- The Patrol Unit after either reset (R105, R120). -/
def PatrolUnit.reset : PatrolUnit :=
  { state := .off, activity := .background, mode := .off, interval := 100, timer := none, cursor := 0,
    visited := false, sweep := 0, candidate := none, scrub := none }

/-- The Error Record Queue after either reset (R134). -/
def RecordQueue.empty : RecordQueue := { records := [], nextSeq := 0 }

/-- The Interrupt Unit after either reset (R139). -/
def Interrupts.reset : Interrupts :=
  { latched := .clear, enableRecord := false, enable := .clear }

/-- The four ports after either reset (R169). -/
def Ports.empty : Ports := { p0 := .empty, p1 := .empty, p2 := .empty, p3 := .empty }

/-- The Grant Arbiter after either reset (R160). -/
def Arbiter.reset : Arbiter := { pointer := .p0, patrolWait := 0 }

/-- The command slot after either reset (R187). -/
def CommandSlot.reset : CommandSlot :=
  { running := none, result := .none, refused := false, arg0 := 0, arg1 := 0, arg2 := 0 }

/-- The counters after either reset (R197). -/
def Counters.zero : Counters :=
  { corrected := 0, uncorrectable := 0, poison := 0, poisonSeen := 0, lostMinor := 0, lostMajor := 0,
    suspectEvict := 0, suspectDrop := 0, patrolLines := 0, patrolSkipped := 0, sweeps := 0,
    retired := 0, retireFailed := 0, rtqFull := 0 }

/-- The machine right after a power-on reset whose input has been released (R16, R38, R40, R84, R87,
R89, R105, R134, R139, R152, R169, R183, R187, R197, R198; log entries 14 and 24). -/
def State.reset : State :=
  { pins := { porst := false, wrst := false }
    aif := { size := .s20, ops := [], injection := none, mem := [] }
    lrt := { slots := List.replicate 128 none, gen := 0 }
    pool := { spares := List.replicate 128 .free, lowLevel := 8 }
    copy := .reset
    olt := .empty
    policy := .reset
    suspects := .reset
    rtq := []
    patrol := .reset
    erq := .empty
    irq := .reset
    regions := { entries := List.replicate 8 none, stage := .zero }
    ports := .empty
    arbiter := .reset
    ctl := { state := .uninit, haltReason := .none, initProgress := 0 }
    cmd := .reset
    counters := .zero
    responses := []
    freeReads := 0
    pending := [] }

end Sys2Proof.Machine
end

