-- ==== Sys2Proof/Machine/Operands.lean ====
section
/-!
DEFINITION. Operand forms: line numbers and places (R1 to R3), bytes and words of a line and the masked
merge (R4), the decoding of stored words and lines (R5 to R7), and the offsets of the register window (11.5).
-/

namespace Sys2Proof.Machine

/-! ## Array sizes and places -/

/-- ARRAY_LINES of a size (R1). -/
def ArraySize.lines : ArraySize → Nat
  | .s20 => 1048576
  | .s21 => 2097152
  | .s22 => 4194304
  | .s23 => 8388608
  | .s24 => 16777216

/-- LOGICAL_LINES is ARRAY_LINES − 128 (R2). -/
def ArraySize.logical (z : ArraySize) : Nat := z.lines - 128

/-- The size code of ARRAY_CFG (11.5): 0 to 4 name the five sizes, 5 to 7 name none. -/
def ArraySize.ofCode : Nat → Option ArraySize
  | 0 => some .s20
  | 1 => some .s21
  | 2 => some .s22
  | 3 => some .s23
  | 4 => some .s24
  | _ => none

/-- The code of a size (11.5). -/
def ArraySize.code : ArraySize → Nat
  | .s20 => 0 | .s21 => 1 | .s22 => 2 | .s23 => 3 | .s24 => 4

/-- The physical line of a location, for a logical line (R3): HOME is the line itself, SPARE n is
ARRAY_LINES − 128 + n. -/
def physOf (z : ArraySize) (line : Nat) : Loc → Nat
  | .home => line
  | .spare n => z.lines - 128 + n

/-! ## Bytes and words of a line (R4) -/

/-- Word w of a line. -/
def lineWord (d : LineData) (w : Nat) : Word64 := d.extractLsb' (64 * w) 64

/-- Byte b of a line: byte b mod 8 of word b div 8, that is bits 8b to 8b + 7. -/
def lineByte (d : LineData) (b : Nat) : BitVec 8 := d.extractLsb' (8 * b) 8

/-- The line with the eight words `f 0` to `f 7`. -/
def lineOfWords (f : Nat → Word64) : LineData :=
  f 7 ++ f 6 ++ f 5 ++ f 4 ++ f 3 ++ f 2 ++ f 1 ++ f 0

/-- All eight bits of each of the first n bytes that the mask names. -/
def expandMask (mask : ByteMask) : Nat → LineData
  | 0 => 0
  | n + 1 => expandMask mask n ||| (if mask.getLsbD n then 255#512 <<< (8 * n) else 0#512)

/-- Each byte named in the mask from `new`, every other byte from `old` (R58, R76, R79). -/
def mergeBytes (mask : ByteMask) (new old : LineData) : LineData :=
  (new &&& expandMask mask 64) ||| (old &&& ~~~(expandMask mask 64))

/-- All 64 byte enables set (R75). -/
def fullMask (mask : ByteMask) : Bool := decide (mask = BitVec.allOnes 64)

/-- No byte enable set (R74). -/
def zeroMask (mask : ByteMask) : Bool := decide (mask = 0#64)

/-- The set of the words w below 8 with `f w`. -/
def wordMaskOf (f : Nat → Bool) : WordMask :=
  BitVec.ofBool (f 7) ++ BitVec.ofBool (f 6) ++ BitVec.ofBool (f 5) ++ BitVec.ofBool (f 4) ++
  BitVec.ofBool (f 3) ++ BitVec.ofBool (f 2) ++ BitVec.ofBool (f 1) ++ BitVec.ofBool (f 0)

/-! ## Stored lines and their decoding (R5 to R7) -/

/-- The 72 bits of word w that are in error. -/
def errWord (errs : BitVec 576) (w : Nat) : BitVec 72 := errs.extractLsb' (72 * w) 72

/-- The bits `bits` of word w, as a set of bits of the line. -/
def errBits (w : Nat) (bits : BitVec 72) : BitVec 576 := bits.setWidth 576 <<< (72 * w)

/-- How many of the low n bits are set. -/
def countBits (e : BitVec 72) : Nat → Nat
  | 0 => 0
  | n + 1 => countBits e n + (e.getLsbD n).toNat

/-- How many of a word's 72 stored bits are in error. -/
def errWeight (e : BitVec 72) : Nat := countBits e 72

/-- The data that was written to word w: zero for poison (R5). -/
def Written.word : Written → Nat → Word64
  | .data d, w => lineWord d w
  | .poison, _ => 0

/-- The stored data bits of word w as they stand (R10). -/
def StoredLine.rawWord (l : StoredLine) (w : Nat) : Word64 :=
  l.written.word w ^^^ (errWord l.errs w).setWidth 64

/-- The word outcome a 2-bit free value names. -/
def freeOutcome (v : BitVec 2) : WordOutcome :=
  match v.toNat with
  | 0 => .clean
  | 1 => .single
  | 2 => .multi
  | _ => .poison

/-- A word with one of the 72 positions corrected: a check bit leaves the data unchanged (R6). -/
def correctAt (stored : Word64) (pos : Nat) : Word64 :=
  if pos < 64 then stored ^^^ (1#64 <<< pos) else stored

/-- A word with three or more stored bits in error "can decode as any of the four outcomes. When it decodes as CLEAN or
SINGLE, the returned data differs from what was written" (R6). That this binds a poison word too, whose written data is
zero (R5), is the model's choice (log entry 7). -/
def heavyWord (poison : Bool) (base stored : Word64) (e : BitVec 72) : WordOutcome × Word64 :=
  match freeOutcome (Config.heavyOutcome poison base e) with
  | .clean => if stored = base then (.multi, stored) else (.clean, stored)
  | .single =>
    if correctAt stored ((Config.heavyPosition poison base e).toNat % 72) = base then (.multi, stored)
    else (.single, correctAt stored ((Config.heavyPosition poison base e).toNat % 72))
  | .multi => (.multi, stored)
  | .poison => (.poison, stored)

/-- The outcome of decoding a stored word and the data returned for it (R5, R6); a poison word with two bits in error
is MULTI, the model's reading of R5 and R88 (log entry 7). -/
def StoredLine.decodeWord (l : StoredLine) (w : Nat) : WordOutcome × Word64 :=
  match l.written with
  | .data d =>
    match errWeight (errWord l.errs w) with
    | 0 => (.clean, lineWord d w)
    | 1 => (.single, lineWord d w)
    | 2 => (.multi, l.rawWord w)
    | _ => heavyWord false (lineWord d w) (l.rawWord w) (errWord l.errs w)
  | .poison =>
    match errWeight (errWord l.errs w) with
    | 0 => (.poison, l.rawWord w)
    | 1 => (.multi, l.rawWord w)
    | 2 => (.multi, l.rawWord w)
    | _ => heavyWord true 0 (l.rawWord w) (errWord l.errs w)

/-- What a DECODED read delivers (R10), the outcomes of words 0 to 7 in this order. -/
structure LineRead where
  data      : LineData
  outcomes  : List WordOutcome
  outcome   : LineOutcome
  corrected : WordMask
  errors    : WordMask
deriving DecidableEq, Repr

/-- The number of words w below n with `f w`. -/
def countWords (f : Nat → Bool) : Nat → Nat
  | 0 => 0
  | n + 1 => countWords f n + (f n).toNat

/-- The line outcome of eight word outcomes: the first row of the table of R7 that applies. -/
def lineOutcome (ws : Nat → WordOutcome) : LineOutcome :=
  if 5 ≤ countWords (fun w => decide (ws w = .poison)) 8 then .poisoned
  else if 0 < countWords (fun w => decide (ws w = .multi ∨ ws w = .poison)) 8 then .uncorrectable
  else if 0 < countWords (fun w => decide (ws w = .single)) 8 then .corrected
  else .clean

/-- The decoded read of eight decoded words: data word by word with the eight word outcomes (R6, R10), line outcome and
both masks (R7). -/
def LineRead.ofWords (ws : Nat → WordOutcome × Word64) : LineRead :=
  { data := lineOfWords (fun w => (ws w).2)
    outcomes := (List.range 8).map (fun w => (ws w).1)
    outcome := lineOutcome (fun w => (ws w).1)
    corrected := wordMaskOf (fun w => decide ((ws w).1 = .single))
    errors := wordMaskOf (fun w => decide ((ws w).1 = .multi ∨ (ws w).1 = .poison)) }

/-- The decoded read of stored contents. -/
def StoredLine.decoded (l : StoredLine) : LineRead := .ofWords l.decodeWord

/-- The 64 stored data bytes as they stand (R10, RAW). -/
def StoredLine.raw (l : StoredLine) : LineData := lineOfWords l.rawWord

/-- The decoded read of undefined contents: any data with any word outcomes (R16). Log entry 8. -/
def undefinedRead (n : Nat) : LineRead :=
  .ofWords (fun w => (freeOutcome (Config.undefinedOutcome n w), Config.undefinedData n w))

/-- The raw read of undefined contents (R16). Log entry 8. -/
def undefinedRawRead (n : Nat) : LineData := lineOfWords (Config.undefinedRaw n)

/-- The line as a WRITE_LINE stores it: valid check bits (R5), and the armed injection's word with data bit 0,
or data bits 0 and 1, inverted after the check bits were computed (R15). -/
def storedOf (data : LineData) (inj : Option Injection) : StoredLine :=
  match inj with
  | none => { written := .data data, errs := 0 }
  | some i => { written := .data data, errs := errBits i.word (if i.bits = 1 then 1 else 3) }

/-- The line as a WRITE_POISON stores it (R5). -/
def storedPoison : StoredLine := { written := .poison, errs := 0 }

/-! ## The register window's offsets (11.5) -/

/-- The words of the register window. -/
inductive Reg where
  | id | state | initProgress | arrayCfg | policy | suspectCfg | patrolCfg | patrolCursor | spareCfg
  | spareCounts | lrtGen | cmdCode | cmdArg0 | cmdArg1 | cmdArg2 | cmdStatus | stageA | stageB | stageC
  | recHead (i : Nat) | recPop | recLevel | irqCause | irqEnable
  | counter (c : Counter)
  | regionView (k : Nat) (w : Nat)
  | portStatus (p : PortId)
  | suspectView (p : Nat) (w : Nat)
  | rtqView (p : Nat)
  | lrtView (k : Nat) (w : Nat)
  | spareView (n : Nat)
deriving DecidableEq, Repr

/-- The port with number n. -/
def portOfIndex : Nat → PortId
  | 0 => .p0
  | 1 => .p1
  | 2 => .p2
  | _ => .p3

/-- The word at an offset below 100h of the window (11.5). -/
def regLow (o : Nat) : Option Reg :=
  if o = 0x000 then some .id
  else if o = 0x004 then some .state
  else if o = 0x008 then some .initProgress
  else if o = 0x010 then some .arrayCfg
  else if o = 0x014 then some .policy
  else if o = 0x018 then some .suspectCfg
  else if o = 0x01C then some .patrolCfg
  else if o = 0x020 then some .patrolCursor
  else if o = 0x024 then some .spareCfg
  else if o = 0x028 then some .spareCounts
  else if o = 0x02C then some .lrtGen
  else if o = 0x040 then some .cmdCode
  else if o = 0x044 then some .cmdArg0
  else if o = 0x048 then some .cmdArg1
  else if o = 0x04C then some .cmdArg2
  else if o = 0x050 then some .cmdStatus
  else if o = 0x060 then some .stageA
  else if o = 0x064 then some .stageB
  else if o = 0x068 then some .stageC
  else if 0x080 ≤ o ∧ o < 0x090 then some (.recHead ((o - 0x080) / 4))
  else if o = 0x090 then some .recPop
  else if o = 0x094 then some .recLevel
  else if o = 0x0A0 then some .irqCause
  else if o = 0x0A4 then some .irqEnable
  else if 0x0C0 ≤ o ∧ o < 0x0F8 then (Counter.all[(o - 0x0C0) / 4]?).map .counter
  else none

/-- The word at an offset from 100h of the window: the collection views (11.5). -/
def regView (o : Nat) : Option Reg :=
  if 0x100 ≤ o ∧ o < 0x180 then some (.regionView ((o - 0x100) / 16) ((o - 0x100) % 16 / 4))
  else if 0x180 ≤ o ∧ o < 0x190 then some (.portStatus (portOfIndex ((o - 0x180) / 4)))
  else if 0x200 ≤ o ∧ o < 0x280 then some (.suspectView ((o - 0x200) / 8) ((o - 0x200) % 8 / 4))
  else if 0x280 ≤ o ∧ o < 0x2A0 then some (.rtqView ((o - 0x280) / 4))
  else if 0x400 ≤ o ∧ o < 0x800 then some (.lrtView ((o - 0x400) / 8) ((o - 0x400) % 8 / 4))
  else if 0x800 ≤ o ∧ o < 0xA00 then some (.spareView ((o - 0x800) / 4))
  else none

/-- The word of the window at an offset, or none where the map names none (R184). -/
def regAt (offset : BitVec 12) : Option Reg :=
  if offset.toNat % 4 ≠ 0 then none
  else if offset.toNat < 0x100 then regLow offset.toNat
  else regView offset.toNat

end Sys2Proof.Machine
end

