-- ==== Sys2Proof/Machine/Flags.lean ====
section
/-!
DEFINITION. The saturating counters (R197), the interrupt causes and enables (R135 to R138), and the
pins computed from them: IRQ_N (R138, R139) and each port's ready (R153).
-/

namespace Sys2Proof.Machine

/-- A 32-bit counter saturates at its largest value (R197). -/
def satInc (c : Word32) : Word32 := if c = BitVec.allOnes 32 then c else c + 1

/-- The value of a counter. -/
def Counters.get (k : Counters) : Counter → Word32
  | .corrected => k.corrected
  | .uncorrectable => k.uncorrectable
  | .poison => k.poison
  | .poisonSeen => k.poisonSeen
  | .lostMinor => k.lostMinor
  | .lostMajor => k.lostMajor
  | .suspectEvict => k.suspectEvict
  | .suspectDrop => k.suspectDrop
  | .patrolLines => k.patrolLines
  | .patrolSkipped => k.patrolSkipped
  | .sweeps => k.sweeps
  | .retired => k.retired
  | .retireFailed => k.retireFailed
  | .rtqFull => k.rtqFull

/-- The counters with one set to a value. -/
def Counters.set (k : Counters) (c : Counter) (v : Word32) : Counters :=
  match c with
  | .corrected => { k with corrected := v }
  | .uncorrectable => { k with uncorrectable := v }
  | .poison => { k with poison := v }
  | .poisonSeen => { k with poisonSeen := v }
  | .lostMinor => { k with lostMinor := v }
  | .lostMajor => { k with lostMajor := v }
  | .suspectEvict => { k with suspectEvict := v }
  | .suspectDrop => { k with suspectDrop := v }
  | .patrolLines => { k with patrolLines := v }
  | .patrolSkipped => { k with patrolSkipped := v }
  | .sweeps => { k with sweeps := v }
  | .retired => { k with retired := v }
  | .retireFailed => { k with retireFailed := v }
  | .rtqFull => { k with rtqFull := v }

/-- The six latched causes (R136). -/
inductive Cause where
  | major | lost | cmdDone | halted | sparesLow | sweep
deriving DecidableEq, Repr

/-- Whether a cause is latched, or an enable on. -/
def Latches.get (l : Latches) : Cause → Bool
  | .major => l.major
  | .lost => l.lost
  | .cmdDone => l.cmdDone
  | .halted => l.halted
  | .sparesLow => l.sparesLow
  | .sweep => l.sweep

/-- The latches with one cause set. -/
def Latches.latch (l : Latches) : Cause → Latches
  | .major => { l with major := true }
  | .lost => { l with lost := true }
  | .cmdDone => { l with cmdDone := true }
  | .halted => { l with halted := true }
  | .sparesLow => { l with sparesLow := true }
  | .sweep => { l with sweep := true }

/-- The positions of the latched causes in IRQ_CAUSE and IRQ_ENABLE (11.5): MAJOR 1, LOST 2, CMD_DONE 3,
HALTED 4, SPARES_LOW 5, SWEEP 6. -/
def Latches.ofWord (v : Word32) : Latches :=
  { major := v.getLsbD 1, lost := v.getLsbD 2, cmdDone := v.getLsbD 3, halted := v.getLsbD 4,
    sparesLow := v.getLsbD 5, sweep := v.getLsbD 6 }

/-- A latch stays set where the position of the value written holds 0 (R137). -/
def Latches.clearBy (l : Latches) (v : Word32) : Latches :=
  { major := l.major && !v.getLsbD 1, lost := l.lost && !v.getLsbD 2,
    cmdDone := l.cmdDone && !v.getLsbD 3, halted := l.halted && !v.getLsbD 4,
    sparesLow := l.sparesLow && !v.getLsbD 5, sweep := l.sweep && !v.getLsbD 6 }

/-- The RECORD cause is set whenever the queue holds a record (R135). -/
def State.recordCause (s : State) : Bool := !s.erq.records.isEmpty

/-- Whether some cause is both set and enabled (R138). -/
def State.causePending (s : State) : Bool :=
  (s.recordCause && s.irq.enableRecord) ||
  (s.irq.latched.major && s.irq.enable.major) || (s.irq.latched.lost && s.irq.enable.lost) ||
  (s.irq.latched.cmdDone && s.irq.enable.cmdDone) || (s.irq.latched.halted && s.irq.enable.halted) ||
  (s.irq.latched.sparesLow && s.irq.enable.sparesLow) || (s.irq.latched.sweep && s.irq.enable.sweep)

/-- Either reset input is asserted (R198). -/
def State.inReset (s : State) : Bool := s.pins.porst || s.pins.wrst

/-- The level of the IRQ_N pin, driven low while an enabled cause is set (R138) and high while a reset
input is asserted (R139, R198). -/
def State.irqN (s : State) : Bool := s.inReset || !s.causePending

/-- The state of a port. -/
def Ports.get (ps : Ports) : PortId → Port
  | .p0 => ps.p0
  | .p1 => ps.p1
  | .p2 => ps.p2
  | .p3 => ps.p3

/-- The ports with one replaced. -/
def Ports.set (ps : Ports) (p : PortId) (v : Port) : Ports :=
  match p with
  | .p0 => { ps with p0 := v }
  | .p1 => { ps with p1 := v }
  | .p2 => { ps with p2 := v }
  | .p3 => { ps with p3 := v }

/-- A port's ready indication: its queue holds fewer than 8 requests and no reset input is asserted
(R153). -/
def State.ready (s : State) (p : PortId) : Bool :=
  decide ((s.ports.get p).queue.length < 8) && !s.inReset

end Sys2Proof.Machine
end

