-- ==== Sys2Proof/Machine/Ops.lean ====
section
/-!
DEFINITION. The named operations over the state that the blocks share: one update per block, counters and
causes, the array's memory, the Array Interface (R9 to R16), the ports' responses and tags (R155 to R157),
the Open-Line Table (R64 to R67), the remap table and spare pool (R17 to R39), the record queue (R124 to R130),
the Region Table's searches (R140) and the end of a maintenance command (R192).
-/

namespace Sys2Proof.Machine

/-! ## One update per block -/

/-- The state with `pins` replaced. -/
def State.setPins (s : State) (v : ResetPins) : State := { s with pins := v }
/-- The state with `aif` replaced. -/
def State.setAif (s : State) (v : ArrayIf) : State := { s with aif := v }
/-- The state with `lrt` replaced. -/
def State.setLrt (s : State) (v : RemapTable) : State := { s with lrt := v }
/-- The state with `pool` replaced. -/
def State.setPool (s : State) (v : SparePool) : State := { s with pool := v }
/-- The state with `copy` replaced. -/
def State.setCopy (s : State) (v : CopyUnit) : State := { s with copy := v }
/-- The state with `olt` replaced. -/
def State.setOlt (s : State) (v : OpenTable) : State := { s with olt := v }
/-- The state with `policy` replaced. -/
def State.setPolicy (s : State) (v : Policy) : State := { s with policy := v }
/-- The state with `suspects` replaced. -/
def State.setSuspects (s : State) (v : SuspectList) : State := { s with suspects := v }
/-- The state with `rtq` replaced. -/
def State.setRtq (s : State) (v : List RetireItem) : State := { s with rtq := v }
/-- The state with `patrol` replaced. -/
def State.setPatrol (s : State) (v : PatrolUnit) : State := { s with patrol := v }
/-- The state with `erq` replaced. -/
def State.setErq (s : State) (v : RecordQueue) : State := { s with erq := v }
/-- The state with `irq` replaced. -/
def State.setIrq (s : State) (v : Interrupts) : State := { s with irq := v }
/-- The state with `regions` replaced. -/
def State.setRegions (s : State) (v : RegionTable) : State := { s with regions := v }
/-- The state with `ports` replaced. -/
def State.setPorts (s : State) (v : Ports) : State := { s with ports := v }
/-- The state with `arbiter` replaced. -/
def State.setArbiter (s : State) (v : Arbiter) : State := { s with arbiter := v }
/-- The state with `ctl` replaced. -/
def State.setCtl (s : State) (v : Controller) : State := { s with ctl := v }
/-- The state with `cmd` replaced. -/
def State.setCmd (s : State) (v : CommandSlot) : State := { s with cmd := v }
/-- The state with `counters` replaced. -/
def State.setCounters (s : State) (v : Counters) : State := { s with counters := v }
/-- The state with `responses` replaced. -/
def State.setResponses (s : State) (v : List Response) : State := { s with responses := v }
/-- The state with `freeReads` replaced. -/
def State.setFreeReads (s : State) (v : Nat) : State := { s with freeReads := v }
/-- The state with `pending` replaced. -/
def State.setPending (s : State) (v : List Instr) : State := { s with pending := v }

/-! ## Counters and causes -/

/-- Increment a counter, saturating (R197). -/
def State.count (s : State) (c : Counter) : State :=
  s.setCounters (s.counters.set c (satInc (s.counters.get c)))

/-- Latch a cause (R136). -/
def State.latch (s : State) (c : Cause) : State :=
  s.setIrq { s.irq with latched := s.irq.latched.latch c }

/-! ## The array's memory -/

/-- The contents of a physical line, or none while they are undefined (R16). -/
def Memory.get : Memory → Nat → Option StoredLine
  | [], _ => none
  | (k, v) :: m, p => if k = p then some v else Memory.get m p

/-- The memory with a physical line stored, kept in its canonical form. -/
def Memory.set : Memory → Nat → StoredLine → Memory
  | [], p, v => [(p, v)]
  | (k, w) :: m, p, v =>
    if p < k then (p, v) :: (k, w) :: m
    else if p = k then (p, v) :: m
    else (k, w) :: Memory.set m p v

/-- The effect of an operation on the stored contents (R10, R11): a read changes nothing. -/
def Memory.apply (m : Memory) (op : ArrayOp) : Memory :=
  match op.kind with
  | .readLine _ => m
  | .writeLine c => m.set op.phys c
  | .writePoison => m.set op.phys storedPoison

/-! ## The Array Interface -/

/-- An operation joins the tail of its physical line's list when it is issued (R9). -/
def State.issueOp (s : State) (op : ArrayOp) : State :=
  s.setAif { s.aif with ops := s.aif.ops ++ [op] }

/-- Issue a READ_LINE of a location on behalf of a logical line (R3, R9). -/
def State.issueRead (s : State) (loc : Loc) (line : Nat) (decoded : Bool) (by_ : Issuer) : State :=
  s.issueOp { kind := .readLine decoded, phys := physOf s.aif.size line loc, line := line, issuer := by_ }

/-- The armed injection if it is for the line (R15). -/
def State.injectionFor (s : State) (line : Nat) : Option Injection :=
  match s.aif.injection with
  | some i => if i.line = line then some i else none
  | none => none

/-- Issue a WRITE_LINE (R9, R11): an armed injection for the line is applied and cleared (R15). -/
def State.issueWrite (s : State) (loc : Loc) (line : Nat) (data : LineData) (by_ : Issuer) : State :=
  let op : ArrayOp :=
    { kind := .writeLine (storedOf data (s.injectionFor line)), phys := physOf s.aif.size line loc,
      line := line, issuer := by_ }
  s.setAif { s.aif with
    ops := s.aif.ops ++ [op]
    injection := if (s.injectionFor line).isSome then none else s.aif.injection }

/-- Issue a WRITE_POISON, which neither applies nor clears the injection (R15). -/
def State.issuePoison (s : State) (loc : Loc) (line : Nat) (by_ : Issuer) : State :=
  s.issueOp { kind := .writePoison, phys := physOf s.aif.size line loc, line := line, issuer := by_ }

/-- The record at the head of a physical line's list (R9). -/
def State.headOp (s : State) (phys : Nat) : Option ArrayOp := s.aif.ops.find? (fun o => o.phys == phys)

/-- The first issued operation with a property, if it is at the head of its physical line's list, the only one
of that line that can complete (R12). -/
def State.completable (s : State) (p : ArrayOp → Bool) : Option ArrayOp :=
  match s.aif.ops.find? p with
  | none => none
  | some op => if s.headOp op.phys = some op then some op else none

/-- An operation completes: it leaves the head of its physical line's list (R9) and its effect is in place
(R11; log entry 15). -/
def State.finishOp (s : State) (op : ArrayOp) : State :=
  (s.setAif { s.aif with
    ops := s.aif.ops.eraseP (fun o => o.phys == op.phys)
    mem := s.aif.mem.apply op }).setFreeReads (s.freeReads + 1)

/-- What a DECODED READ_LINE of a physical line delivers as the contents stand (R10). -/
def State.decodedRead (s : State) (phys : Nat) : LineRead :=
  match s.aif.mem.get phys with
  | some l => l.decoded
  | none => undefinedRead s.freeReads

/-- What a RAW READ_LINE of a physical line delivers as the contents stand (R10). -/
def State.rawRead (s : State) (phys : Nat) : LineData :=
  match s.aif.mem.get phys with
  | some l => l.raw
  | none => undefinedRawRead s.freeReads

/-! ## Responses and tags -/

/-- Present a response on a port's channel (R157). -/
def State.present (s : State) (r : Response) : State := s.setResponses (s.responses ++ [r])

/-- A tag leaves a port's outstanding set (R156). -/
def State.releaseTag (s : State) (p : PortId) (t : Tag) : State :=
  s.setPorts (s.ports.set p
    { (s.ports.get p) with tags := (s.ports.get p).tags.filter (fun u => u ≠ t) })

/-- Answer a queued request: its tag leaves the set in the event of its response (R156). -/
def State.answer (s : State) (r : Response) : State := (s.releaseTag r.port r.tag).present r

/-- The data of a response that has none of its own: 64 zero bytes for a read, nothing for a write (R82). -/
def noData : ReqKind → Option LineData
  | .read => some 0
  | .write _ _ => none

/-! ## The record queue -/

/-- A record of a kind and source with every other field absent (R122). -/
def Record.blank (kind : RecordKind) (source : RecordSource) : Record :=
  { seq := 0, kind := kind, source := source, line := none, place := none, spare := none,
    mask := none, repeats := none, detail := none }

/-- The three minor kinds (R123). -/
def RecordKind.minor : RecordKind → Bool
  | .corrected => true
  | .accessDenied => true
  | .sweepDone => true
  | .uncorrectable => false
  | .poisonHit => false
  | .retired => false
  | .released => false
  | .retireFailed => false
  | .releaseFailed => false
  | .spareBad => false
  | .spareExhausted => false
  | .halted => false

/-- Whether an offer folds into a tail record: both CORRECTED, for the same line and place (R126). -/
def Record.foldsInto (r tail : Record) : Bool :=
  decide (r.kind = .corrected ∧ tail.kind = .corrected ∧ r.line = tail.line ∧ r.place = tail.place)

/-- The tail grown by one more outcome: repeat saturates at 255, the masks are united (R126). -/
def Record.grow (tail r : Record) : Record :=
  { tail with
    repeats := some (min 255 (tail.repeats.getD 1 + 1))
    mask := some (tail.mask.getD 0 ||| r.mask.getD 0) }

/-- The queue without its newest minor record, or none if every record is major (R129). -/
def dropNewestMinor : List Record → Option (List Record)
  | [] => none
  | r :: rs =>
    match dropNewestMinor rs with
    | some rs' => some (r :: rs')
    | none => if r.kind.minor then some rs else none

/-- Append a record at the tail with the next sequence number (R125, R127); a major one latches MAJOR. -/
def State.appendRecord (s : State) (rs : List Record) (r : Record) : State :=
  let s := s.setErq { records := rs ++ [{ r with seq := s.erq.nextSeq }], nextSeq := s.erq.nextSeq + 1 }
  if r.kind.minor then s else s.latch .major

/-- The queue with its tail replaced. -/
def replaceTail (rs : List Record) (r : Record) : List Record := rs.dropLast ++ [r]

/-- Whether an offer folds into the queue's tail (R126). -/
def RecordQueue.folds (q : RecordQueue) (r : Record) : Bool :=
  match q.records.getLast? with
  | some tail => r.foldsInto tail
  | none => false

/-- The queue with an offer folded into its tail (R126). -/
def RecordQueue.fold (q : RecordQueue) (r : Record) : RecordQueue :=
  match q.records.getLast? with
  | some tail => { q with records := replaceTail q.records (tail.grow r) }
  | none => q

/-- A record is offered to the Error Record Queue (R124): folded (R126), appended (R127), dropped (R128), or
appended after a displacement or dropped (R129); losses are counted and latch LOST (R130). -/
def State.offer (s : State) (r : Record) : State :=
  if s.erq.folds r then s.setErq (s.erq.fold r)
  else if s.erq.records.length < 32 then s.appendRecord s.erq.records r
  else if r.kind.minor then (s.count .lostMinor).latch .lost
  else
    match dropNewestMinor s.erq.records with
    | some rs => ((s.count .lostMinor).latch .lost).appendRecord rs r
    | none => (s.count .lostMajor).latch .lost

/-! ## The remap table -/

/-- The entry is in a copying state (R17). -/
def RemapState.copying? : RemapState → Bool
  | .active _ _ => false
  | .copying _ => true
  | .moving _ _ _ => true
  | .releasing _ _ => true

/-- The entry of a logical line (R19: at most one). -/
def findEntry : List (Option RemapEntry) → Nat → Option RemapEntry
  | [], _ => none
  | none :: es, line => findEntry es line
  | some e :: es, line => if e.line = line then some e else findEntry es line

/-- The entry of a logical line as the table stands. -/
def State.entryOf (s : State) (line : Nat) : Option RemapEntry := findEntry s.lrt.slots line

/-- The line's entry is in a copying state. -/
def State.lineCopying (s : State) (line : Nat) : Bool :=
  match s.entryOf line with
  | some e => e.state.copying?
  | none => false

/-- Where the line lives apart from the copy buffer: HOME without an entry or COPYING, the current spare
otherwise (R21 with the buffer taken as invalid, R22, R58). -/
def State.sourceLoc (s : State) (line : Nat) : Loc :=
  match s.entryOf line with
  | none => .home
  | some e =>
    match e.state with
    | .active c _ => .spare c
    | .copying _ => .home
    | .moving c _ _ => .spare c
    | .releasing c _ => .spare c

/-- The lookup (R21). -/
def State.lookup (s : State) (line : Nat) : Place :=
  if s.lineCopying line && s.copy.buffer.valid then .copyBuffer else .loc (s.sourceLoc line)

/-- The slots with an entry placed in the lowest empty one (R18). -/
def fillLowest : List (Option RemapEntry) → RemapEntry → List (Option RemapEntry)
  | [], _ => []
  | none :: es, e => some e :: es
  | some x :: es, e => some x :: fillLowest es e

/-- The slots with the entry of a line replaced or removed in its slot (R18). -/
def replaceEntry : List (Option RemapEntry) → Nat → Option RemapEntry → List (Option RemapEntry)
  | [], _, _ => []
  | none :: es, line, e => none :: replaceEntry es line e
  | some x :: es, line, e => if x.line = line then e :: es else some x :: replaceEntry es line e

/-- Create an entry; LRT_GEN increments (R18, R23). -/
def State.addEntry (s : State) (e : RemapEntry) : State :=
  s.setLrt { slots := fillLowest s.lrt.slots e, gen := s.lrt.gen + 1 }

/-- Change or remove the entry of a line; LRT_GEN increments (R23). -/
def State.putEntry (s : State) (line : Nat) (e : Option RemapEntry) : State :=
  s.setLrt { slots := replaceEntry s.lrt.slots line e, gen := s.lrt.gen + 1 }

/-! ## The spare pool -/

/-- How many spares are in a state (R25). -/
def SparePool.count (p : SparePool) (x : SpareState) : Nat := p.spares.countP (fun y => y == x)

/-- The lowest-numbered FREE spare (R26). -/
def SparePool.lowestFree (p : SparePool) : Option Nat := p.spares.findIdx? (fun y => y == .free)

/-- The state of a spare. -/
def SparePool.get (p : SparePool) (n : Nat) : SpareState := p.spares.getD n .bad

/-- A spare changes its state. -/
def State.setSpare (s : State) (n : Nat) (x : SpareState) : State :=
  s.setPool { s.pool with spares := s.pool.spares.set n x }

/-- SPARES_LOW latches when an event lowered the free count from above SPARES_LOW_LEVEL to at or below it
(R28); `before` is the free count before the event. -/
def State.noteCrossing (s : State) (before : Nat) : State :=
  if s.pool.lowLevel < before ∧ s.pool.count .free ≤ s.pool.lowLevel then s.latch .sparesLow else s

/-- A FREE spare becomes HELD or BAD, with the crossing test (R28). -/
def State.takeSpare (s : State) (n : Nat) (x : SpareState) : State :=
  (s.setSpare n x).noteCrossing (s.pool.count .free)

/-! ## The Region Table -/

/-- The line falls between a region's base and limit, both included (R140). -/
def Region.contains (r : Region) (line : Nat) : Bool := decide (r.base ≤ line ∧ line ≤ r.limit)

/-- The valid region that contains a line (R140, R141: at most one). -/
def State.regionOf (s : State) (line : Nat) : Option Region :=
  (s.regions.entries.filterMap id).find? (fun r => r.contains line)

/-- The lowest line at or above `from_` in a region that `ok` accepts; regions are searched by line number and
not by index (R108, R117). -/
def lowestLine (ok : Region → Bool) : List (Option Region) → Nat → Option Nat
  | [], _ => none
  | none :: rs, c => lowestLine ok rs c
  | some r :: rs, c =>
    if ok r && decide (c ≤ r.limit) then
      match lowestLine ok rs c with
      | some l => some (min (max r.base c) l)
      | none => some (max r.base c)
    else lowestLine ok rs c

/-- Regions that qualify for the background sweep: CHECKED with the patrol flag on (R108). -/
def Region.swept (r : Region) : Bool := decide (r.cls = .checked) && r.patrol

/-- Regions a targeted scrub visits: CHECKED ones (R117). -/
def Region.scrubbed (r : Region) : Bool := decide (r.cls = .checked)

/-- The class work takes that is not checked for access: the region's, or CHECKED outside every region (R8,
R44). -/
def State.classOf (s : State) (line : Nat) : CheckClass :=
  match s.regionOf line with
  | some r => r.cls
  | none => .checked

/-! ## The Open-Line Table -/

/-- The entry in a slot. -/
def State.entryAt (s : State) (k : Nat) : Option OpenEntry := s.olt.slots.getD k none

/-- Put an entry in a slot. -/
def State.putOpen (s : State) (k : Nat) (e : OpenEntry) : State :=
  s.setOlt { s.olt with slots := s.olt.slots.set k (some e) }

/-- The lowest-numbered empty slot (R64). -/
def State.emptySlot (s : State) : Option Nat := s.olt.slots.findIdx? (fun e => e.isNone)

/-- The Open-Line Table holds no entry (R177, R178). -/
def State.oltEmpty (s : State) : Bool := s.olt.slots.all (fun e => e.isNone)

/-- The slot in the list holds an entry of the line. -/
def State.slotOfLine (s : State) (line k : Nat) : Bool :=
  match s.entryAt k with
  | some e => decide (e.line = line)
  | none => false

/-- The newest entry of a line, the one most recently granted (R66). -/
def State.newestOf (s : State) (line : Nat) : Option Nat := (s.olt.order.filter (s.slotOfLine line)).getLast?

/-- Create an entry at a grant (R66) in the lowest empty slot (R64): BLOCKED on the newest entry of its line, or
with its turn come when the line has none. -/
def State.createEntry (s : State) (work : Work) (line : Nat) (cls : CheckClass) : State :=
  match s.emptySlot with
  | none => s
  | some k =>
    let on : WaitsOn := match s.newestOf line with
      | some m => .entry m
      | none => .turn
    s.setOlt
      { slots := s.olt.slots.set k (some { work := work, line := line, cls := cls, place := none,
                                           state := .blocked on, result := none })
        order := s.olt.order ++ [k] }

/-- What the waiter of a removed entry waits on afterwards (R67): the older entry the removed one waited on, or
nothing any more. -/
def OpenEntry.handOver (e : OpenEntry) : WaitsOn :=
  match e.state with
  | .blocked (.entry m) => .entry m
  | .blocked .copyHold => .turn
  | .blocked .turn => .turn
  | .reading => .turn
  | .writing => .turn
  | .writeback => .turn

/-- An entry that waited on slot k waits on `w` instead. -/
def retarget (k : Nat) (w : WaitsOn) (e : Option OpenEntry) : Option OpenEntry :=
  match e with
  | none => none
  | some e => some (if e.state = .blocked (.entry k) then { e with state := .blocked w } else e)

/-- Remove the entry of a slot; the entry that waited on it is re-examined (R67). -/
def State.removeEntry (s : State) (k : Nat) : State :=
  match s.entryAt k with
  | none => s
  | some e =>
    s.setOlt
      { slots := (s.olt.slots.set k none).map (retarget k e.handOver)
        order := s.olt.order.filter (fun j => j ≠ k) }

/-- The entry blocked on the copy hold has its turn come (R53, R69). -/
def releaseHold (e : Option OpenEntry) : Option OpenEntry :=
  match e with
  | none => none
  | some e => some (if e.state = .blocked .copyHold then { e with state := .blocked .turn } else e)

/-! ## The command slot -/

/-- A command completes (R192): its result is set, busy clears and CMD_DONE latches. -/
def State.completeCommand (s : State) (r : CmdResult) : State :=
  (s.setCmd { s.cmd with running := none, result := r }).latch .cmdDone

/-- A command sets busy and keeps the argument values it took (R187, R189). -/
def State.holdSlot (s : State) (c : Command) : State :=
  s.setCmd { s.cmd with
    running := some { command := c, arg0 := s.cmd.arg0, arg1 := s.cmd.arg1, arg2 := s.cmd.arg2 } }

/-- A command is in progress (R187: the busy flag). -/
def State.busy (s : State) : Bool := s.cmd.running.isSome

/-- The given command is in progress. -/
def State.runningIs (s : State) (c : Command) : Bool :=
  match s.cmd.running with
  | some r => decide (r.command = c)
  | none => false

end Sys2Proof.Machine
end

