-- ==== Sys2Proof/Machine/Suspects.lean ====
section
/-!
DEFINITION. The Suspect List (R89 to R99) and the Retirement Queue's offers (R100 to R104).
-/

namespace Sys2Proof.Machine

/-- The answer of the Retirement Queue to an offer (R101). -/
inductive RtqAnswer where
  | accepted | queueFull | alreadyPending
deriving DecidableEq, Repr

/-- The tests of R101 in their order: an item for the line, a copying state, eight items. -/
def State.rtqAnswer (s : State) (line : Nat) : RtqAnswer :=
  if s.rtq.any (fun i => i.line == line) then .alreadyPending
  else if s.lineCopying line then .alreadyPending
  else if s.rtq.length < 8 then .accepted
  else .queueFull

/-- An accepted item joins the tail (R100, R101). -/
def State.enqueue (s : State) (i : RetireItem) : State := s.setRtq (s.rtq ++ [i])

/-- The item a nomination offers (R95). -/
def suspectItem (line : Nat) : RetireItem :=
  { line := line, action := .move, origin := .suspect, command := false }

/-- The suspect list with its entries replaced. -/
def State.setSuspectEntries (s : State) (es : List Suspect) : State :=
  s.setSuspects { s.suspects with entries := es }

/-- The entries without those of a line; the gap closes (R89). -/
def dropSuspect (es : List Suspect) (line : Nat) : List Suspect := es.filter (fun e => e.line ≠ line)

/-- Remove the entry of a line. -/
def State.removeSuspect (s : State) (line : Nat) : State :=
  s.setSuspectEntries (dropSuspect s.suspects.entries line)

/-- The entry of a line becomes waiting where it stands (R95). -/
def State.setWaiting (s : State) (line : Nat) : State :=
  s.setSuspectEntries
    (s.suspects.entries.map (fun e => if e.line = line then { e with waiting := true } else e))

/-- The entry of a line is offered to the Retirement Queue, and the list acts on the answer (R95). -/
def State.nominate (s : State) (line : Nat) : State :=
  match s.rtqAnswer line with
  | .accepted => (s.enqueue (suspectItem line)).removeSuspect line
  | .alreadyPending => s.removeSuspect line
  | .queueFull => s.setWaiting line

/-- Offer a line that has reached the threshold (R92, R93, R94). -/
def State.nominateAt (s : State) (line count : Nat) : State :=
  if count = s.suspects.threshold then s.nominate line else s

/-- An updated or new entry stands at the tail (R89). -/
def State.suspectAtTail (s : State) (e : Suspect) : State :=
  s.setSuspectEntries (dropSuspect s.suspects.entries e.line ++ [e])

/-- The entry evicted to make room: of the entries not waiting the one with the smallest count, nearest the
head among equals (R94). -/
def victim : List Suspect → Option Suspect
  | [] => none
  | e :: es =>
    match victim es with
    | some v => if !e.waiting && decide (e.count ≤ v.count) then some e else some v
    | none => if e.waiting then none else some e

/-- The new entry of an update (R93, R94). -/
def freshSuspect (line : Nat) (place : Loc) (mask : WordMask) : Suspect :=
  { line := line, place := place, count := 1, mask := mask, waiting := false }

/-- An update for a line the list does not hold (R94). -/
def State.addSuspect (s : State) (line : Nat) (place : Loc) (mask : WordMask) : State :=
  if s.suspects.entries.length < 16 then
    (s.suspectAtTail (freshSuspect line place mask)).nominateAt line 1
  else
    match victim s.suspects.entries with
    | some v =>
      (((s.removeSuspect v.line).count .suspectEvict).suspectAtTail
        (freshSuspect line place mask)).nominateAt line 1
    | none => s.count .suspectDrop

/-- An update for a line the list holds at the update's place (R92). -/
def State.bumpSuspect (s : State) (e : Suspect) (mask : WordMask) : State :=
  if e.waiting then s.suspectAtTail { e with mask := e.mask ||| mask }
  else
    (s.suspectAtTail { e with count := min (e.count + 1) s.suspects.threshold, mask := e.mask ||| mask }).nominateAt
      e.line (min (e.count + 1) s.suspects.threshold)

/-- A CORRECTED outcome is offered to the Suspect List (R91): declined for a line in a copying state,
otherwise handled by R92, R93 or R94. -/
def State.suspectUpdate (s : State) (line : Nat) (place : Loc) (mask : WordMask) : State :=
  if s.lineCopying line then s
  else
    match s.suspects.entries.find? (fun e => e.line == line) with
    | some e =>
      if e.place = place then s.bumpSuspect e mask
      else (s.suspectAtTail (freshSuspect line place mask)).nominateAt line 1
    | none => s.addSuspect line place mask

/-- The lines of the waiting entries, head first. -/
def State.waitingLines (s : State) : List Nat :=
  (s.suspects.entries.filter (fun e => e.waiting)).map (fun e => e.line)

/-- Re-offer waiting entries one at a time until one is accepted or the queue is full (R96). -/
def reofferLines : List Nat → State → State
  | [], s => s
  | line :: ls, s =>
    match s.rtqAnswer line with
    | .accepted => (s.enqueue (suspectItem line)).removeSuspect line
    | .alreadyPending => reofferLines ls (s.removeSuspect line)
    | .queueFull => s

/-- The re-offers that follow an item's leaving of the queue (R96). -/
def State.reoffer (s : State) : State := reofferLines s.waitingLines s

/-- Offer lines one at a time in the order given (R97). -/
def nominateLines : List Nat → State → State
  | [], s => s
  | line :: ls, s => nominateLines ls (s.nominate line)

/-- A threshold from 1 to 15 is written (R97): waiting flags clear, counts are clamped, and the entries at the
threshold are offered in list order. -/
def State.setThreshold (s : State) (n : Nat) : State :=
  let es := s.suspects.entries.map (fun e => { e with waiting := false, count := min e.count n })
  nominateLines ((es.filter (fun e => decide (e.count = n))).map (fun e => e.line))
    (s.setSuspects { entries := es, threshold := n })

/-- One entry at the end of a sweep (R98). -/
def Suspect.decay (e : Suspect) : Option Suspect :=
  if e.waiting then some e
  else if e.count ≤ 1 then none
  else some { e with count := e.count - 1 }

/-- The decay at the end of a background sweep (R98). -/
def State.decaySuspects (s : State) : State :=
  s.setSuspectEntries (s.suspects.entries.filterMap Suspect.decay)

end Sys2Proof.Machine
end

