-- ==== Sys2Proof/Machine/Copy.lean ====
section
/-!
DEFINITION. The Copy Unit (R40 to R63) and what its operations do to the remap table and the spare pool
(R30 to R35): the start of an item, the target write, the verify read, commit and abort.
-/

namespace Sys2Proof.Machine

/-! ## Remap operations (R30 to R35) -/

/-- The origin an item gives an entry (R17). -/
def ItemOrigin.remap : ItemOrigin → RemapOrigin
  | .suspect => .suspect
  | .uePolicy => .uePolicy
  | .command => .command

/-- Beginning a move with the allocated spare t (R30): a new COPYING entry, or the ACTIVE entry becomes MOVING. -/
def State.beginMove (s : State) (line : Nat) (origin : RemapOrigin) (t : Nat) : State :=
  match s.entryOf line with
  | none => (s.takeSpare t .held).addEntry { line := line, state := .copying t, origin := origin }
  | some e =>
    match e.state with
    | .active c m =>
      (s.takeSpare t .held).putEntry line (some { line := line, state := .moving c t m, origin := origin })
    | .copying _ => s
    | .moving _ _ _ => s
    | .releasing _ _ => s

/-- Replacing a target (R32): the failed one becomes BAD, the new one HELD. -/
def State.replaceTarget (s : State) (line failed t : Nat) : State :=
  match s.entryOf line with
  | none => s
  | some e =>
    match e.state with
    | .copying _ =>
      ((s.setSpare failed .bad).takeSpare t .held).putEntry line (some { e with state := .copying t })
    | .moving c _ m =>
      ((s.setSpare failed .bad).takeSpare t .held).putEntry line (some { e with state := .moving c t m })
    | .active _ _ => s
    | .releasing _ _ => s

/-- Committing a move or a release (R33, R34). -/
def State.commitEntry (s : State) (line : Nat) : State :=
  match s.entryOf line with
  | none => s
  | some e =>
    match e.state with
    | .copying t => s.putEntry line (some { e with state := .active t 1 })
    | .moving c t m =>
      (s.setSpare c .free).putEntry line (some { e with state := .active t (min (m + 1) 255) })
    | .releasing c _ => (s.setSpare c .free).putEntry line none
    | .active _ _ => s

/-- Aborting a move or release (R35): a target becomes FREE, or BAD after a verify failure. -/
def State.abortEntry (s : State) (line : Nat) (target : SpareState) : State :=
  match s.entryOf line with
  | none => s
  | some e =>
    match e.state with
    | .copying t => (s.setSpare t target).putEntry line none
    | .moving c t m => (s.setSpare t target).putEntry line (some { e with state := .active c m })
    | .releasing c m => s.putEntry line (some { e with state := .active c m })
    | .active _ _ => s

/-- Where the copy of a line is written (R46): the target spare, or HOME for a release. -/
def State.copyDest (s : State) (line : Nat) : Loc :=
  match s.entryOf line with
  | none => .home
  | some e =>
    match e.state with
    | .copying t => .spare t
    | .moving _ t _ => .spare t
    | .releasing _ _ => .home
    | .active _ _ => .home

/-! ## Taking an item (R41 to R43) -/

/-- The Copy Unit leaves IDLE with an item (R42, R43). -/
def CopyUnit.begin_ (c : CopyUnit) (i : RetireItem) : CopyUnit :=
  { c with
    state := .readSource, item := some i, buffer := { c.buffer with poison := false, valid := false },
    dirty := false, rewrites := some 0, hold := false, attempts := some 1, expected := none }

/-- A command's item ends: its command completes with a result (R42, R43, R53). -/
def State.completeItem (s : State) (i : RetireItem) (r : CmdResult) : State :=
  if i.command then s.completeCommand r else s

/-- The record of a move that finds no FREE spare (R42, R53). -/
def exhaustedRecord (line : Nat) : Record :=
  { Record.blank .spareExhausted .copy with line := some line }

/-- A move that finds no FREE spare at its start (R42). -/
def State.moveNoSpare (s : State) (i : RetireItem) : State :=
  ((s.offer (exhaustedRecord i.line)).count .retireFailed).completeItem i .noSpare

/-- The Copy Unit begins a MOVE item (R42). -/
def State.startMove (s : State) (i : RetireItem) : State :=
  if s.lineCopying i.line then s
  else
    match s.pool.lowestFree with
    | none => s.moveNoSpare i
    | some t =>
      let s := s.beginMove i.line i.origin.remap t
      s.setCopy (s.copy.begin_ i)

/-- The Copy Unit begins a RELEASE item (R31, R43). -/
def State.startRelease (s : State) (i : RetireItem) : State :=
  match s.entryOf i.line with
  | none => s.completeItem i .notRemapped
  | some e =>
    match e.state with
    | .active c m =>
      let s := s.putEntry i.line (some { line := i.line, state := .releasing c m, origin := i.origin.remap })
      s.setCopy (s.copy.begin_ i)
    | .copying _ => s.completeItem i .notRemapped
    | .moving _ _ _ => s.completeItem i .notRemapped
    | .releasing _ _ => s.completeItem i .notRemapped

/-- The conditions of an item start (R41). -/
def State.startDue (s : State) : Bool :=
  decide (s.copy.state = .idle ∧ s.ctl.state = .running) && !s.rtq.isEmpty

/-- The Copy Unit takes the head item (R41): the item number increments (R40), the move or release begins
(R42, R43), and the re-offers follow (R96, R102; log entry 19). -/
def State.startItem (s : State) : State :=
  match s.rtq with
  | [] => s
  | i :: rest =>
    let s := s.setRtq rest
    let s := s.setCopy { s.copy with itemNo := s.copy.itemNo + 1 }
    let s := match i.action with
      | .move => s.startMove i
      | .release => s.startRelease i
    s.reoffer

/-! ## Writing and verifying (R46, R47) -/

/-- The Copy Unit issues a target write of its buffer (R46). -/
def State.issueTarget (s : State) : State :=
  match s.copy.item with
  | none => s
  | some i =>
    if s.copy.buffer.poison then
      let s := s.issuePoison (s.copyDest i.line) i.line (.copyUnit s.copy.itemNo)
      s.setCopy { s.copy with state := .writeTarget, dirty := false, expected := some .poisoned }
    else
      let s := s.issueWrite (s.copyDest i.line) i.line s.copy.buffer.data (.copyUnit s.copy.itemNo)
      s.setCopy { s.copy with state := .writeTarget, dirty := false, expected := some .clean }

/-- The Copy Unit issues the verify read (R47). -/
def State.issueVerify (s : State) : State :=
  match s.copy.item with
  | none => s
  | some i =>
    let s := s.issueRead (s.copyDest i.line) i.line true (.copyUnit s.copy.itemNo)
    s.setCopy { s.copy with state := .verify }

/-! ## Ending an item (R51 to R54) -/

/-- The Copy Unit after the end of an item (R53); the bytes of the invalid buffer and the item number stay
(R40; log entry 17). -/
def CopyUnit.ended (c : CopyUnit) : CopyUnit :=
  { c with
    state := .idle, item := none, buffer := { c.buffer with poison := false, valid := false },
    dirty := false, rewrites := none, hold := false, attempts := none, expected := none }

/-- The common ending of an item (R53): the entry blocked on the hold has its turn, and the command gets its
result. -/
def State.endItem (s : State) (i : RetireItem) (r : CmdResult) : State :=
  let s := s.setCopy s.copy.ended
  let s := s.setOlt { s.olt with slots := s.olt.slots.map releaseHold }
  s.completeItem i r

/-- A record of the Copy Unit with a line and a place (R123). -/
def copyRecord (kind : RecordKind) (line : Nat) (place : Loc) : Record :=
  { Record.blank kind .copy with line := some line, place := some place }

/-- A move or a release commits (R51, R52). -/
def State.commit (s : State) (i : RetireItem) : State :=
  let dest := s.copyDest i.line
  let poisoned := s.copy.buffer.poison
  let s := s.commitEntry i.line
  match i.action with
  | .move =>
    let r := { copyRecord .retired i.line dest with detail := some (.poisonedFlag poisoned) }
    ((((s.offer r).removeSuspect i.line).count .retired).endItem i .done)
  | .release => (((s.offer (copyRecord .released i.line .home)).count .retired).endItem i .done)

/-- The SPARE_BAD record of a failed target (R49). -/
def spareBadRecord (line spare : Nat) : Record :=
  { Record.blank .spareBad .copy with line := some line, spare := some spare }

/-- The target spare of a move. -/
def RemapState.target? : RemapState → Option Nat
  | .active _ _ => none
  | .copying t => some t
  | .moving _ t _ => some t
  | .releasing _ _ => none

/-- The target spare of the line's move. -/
def State.targetOf (s : State) (line : Nat) : Option Nat :=
  match s.entryOf line with
  | some e => e.state.target?
  | none => none

/-- A verify failure of a move's target t (R49). -/
def State.moveVerifyFailed (s : State) (i : RetireItem) (t : Nat) : State :=
  let s := s.offer (spareBadRecord i.line t)
  let n := s.copy.attempts.getD 1
  if n < 3 then
    match s.pool.lowestFree with
    | some u =>
      let s := s.replaceTarget i.line t u
      (s.setCopy { s.copy with attempts := some (n + 1) }).issueTarget
    | none =>
      let s := s.abortEntry i.line .bad
      (((s.offer (exhaustedRecord i.line)).count .retireFailed).endItem i .noSpare)
  else
    let stays := s.sourceLoc i.line
    let s := s.abortEntry i.line .bad
    (((s.offer (copyRecord .retireFailed i.line stays)).count .retireFailed).endItem i .failed)

/-- A verify failure of a release (R50). -/
def State.releaseVerifyFailed (s : State) (i : RetireItem) : State :=
  let stays := s.sourceLoc i.line
  let s := s.abortEntry i.line .free
  (((s.offer (copyRecord .releaseFailed i.line stays)).count .retireFailed).endItem i .failed)

/-- A verify failure (R49, R50). -/
def State.verifyFailed (s : State) (i : RetireItem) : State :=
  match s.targetOf i.line with
  | some t => s.moveVerifyFailed i t
  | none => s.releaseVerifyFailed i

/-- A good verify result (R48): commit, rewrite, or rewrite under the hold. -/
def State.verifyGood (s : State) (i : RetireItem) : State :=
  if s.copy.dirty then
    if s.copy.rewrites.getD 0 < 4 then
      (s.setCopy { s.copy with rewrites := some (s.copy.rewrites.getD 0 + 1) }).issueTarget
    else (s.setCopy { s.copy with hold := true }).issueTarget
  else s.commit i

/-- The verify outcome equals the expected outcome (R48). -/
def expectedIs (e : Option Expected) (o : LineOutcome) : Bool :=
  match e, o with
  | some .clean, .clean => true
  | some .poisoned, .poisoned => true
  | _, _ => false

/-- The controller enters HALTED with the Copy Unit not IDLE (R54): the item is aborted. -/
def State.copyHalt (s : State) : State :=
  match s.copy.item with
  | none => s
  | some i => (s.abortEntry i.line .free).endItem i .aborted

end Sys2Proof.Machine
end

