-- ==== Sys2Proof/Machine/Patrol.lean ====
section
/-!
DEFINITION. The Patrol Unit's choices and its ways in and out of its states (R105 to R121).
-/

namespace Sys2Proof.Machine

/-- WAITING with the timer started with the interval in effect (R107). -/
def PatrolUnit.wait (p : PatrolUnit) : PatrolUnit :=
  { p with state := .waiting, timer := some p.interval, candidate := none }

/-- OFF with the timer stopped. -/
def PatrolUnit.turnOff (p : PatrolUnit) : PatrolUnit :=
  { p with state := .off, timer := none, candidate := none }

/-- OFF when PATROL_MODE is OFF, otherwise WAITING with the timer started (R114, R117, R118). -/
def PatrolUnit.rest (p : PatrolUnit) : PatrolUnit :=
  if p.mode = .off then p.turnOff else p.wait

/-- ISSUING with a chosen line as candidate; the timer stops (R107, R108, R117). -/
def PatrolUnit.choose (p : PatrolUnit) (line : Nat) (owner : Activity) : PatrolUnit :=
  { p with state := .issuing, timer := none, candidate := some { line := line, owner := owner } }

/-- A background candidate is withdrawn: the cursor is set back to its line (R110). -/
def PatrolUnit.setBack (p : PatrolUnit) : PatrolUnit :=
  match p.candidate with
  | some c => { p with cursor := c.line, candidate := none }
  | none => p

/-- The patrol wait count becomes 0 (R163). -/
def State.clearWait (s : State) : State := s.setArbiter { s.arbiter with patrolWait := 0 }

/-- The Patrol Unit is a candidate at the Grant Arbiter (R110, R161). -/
def State.patrolCandidate (s : State) : Bool :=
  decide (s.patrol.state = .issuing ∧ s.ctl.state = .running)

/-- A targeted scrub finds no further line: it ends (R117). -/
def State.endScrub (s : State) : State :=
  (s.completeCommand .done).setPatrol
    ({ s.patrol with scrub := none, activity := .background } : PatrolUnit).rest

/-- A step of a targeted scrub (R117). -/
def State.scrubStep (s : State) : State :=
  match s.patrol.scrub with
  | none => s
  | some r =>
    match lowestLine Region.scrubbed s.regions.entries r.cursor with
    | some l =>
      if l ≤ r.last then
        s.setPatrol { (s.patrol.choose l .scrub) with scrub := some { r with cursor := l + 1 } }
      else s.endScrub
    | none => s.endScrub

/-- The Line Engine has removed the PATROL entry (R114). -/
def State.patrolEntryRemoved (s : State) : State :=
  match s.patrol.activity with
  | .background => s.setPatrol s.patrol.rest
  | .scrub => (s.setPatrol { s.patrol with candidate := none }).scrubStep

/-- The record of a background sweep's end (R109). -/
def sweepRecord (n : BitVec 16) : Record :=
  { Record.blank .sweepDone .patrol with detail := some (.sweepNumber n) }

/-- A background sweep ends (R109). -/
def State.endSweep (s : State) : State :=
  let n := s.patrol.sweep + 1
  let s := (((s.offer (sweepRecord n)).count .sweeps).latch .sweep).decaySuspects
  let p : PatrolUnit := { s.patrol with sweep := n, cursor := 0, visited := false }
  match p.mode with
  | .continuous => s.setPatrol p.wait
  | .single => s.setPatrol ({ p with mode := .off } : PatrolUnit).turnOff
  | .off => s.setPatrol p.turnOff

/-- The choice of the next background line at a timer expiry (R108). -/
def State.chooseBackground (s : State) : State :=
  match lowestLine Region.swept s.regions.entries s.patrol.cursor with
  | some l => s.setPatrol { (s.patrol.choose l .background) with cursor := l + 1 }
  | none =>
    if s.patrol.visited then s.endSweep
    else s.setPatrol ({ s.patrol with cursor := 0 } : PatrolUnit).wait

/-- The interval timer expires (R107). -/
def State.timerExpiry (s : State) : State :=
  if s.ctl.state = .running then s.chooseBackground
  else s.setPatrol s.patrol.wait

/-- The controller leaves RUNNING: a background candidate is withdrawn (R110, R119). -/
def State.patrolLeaveRunning (s : State) : State :=
  if s.patrol.state = .issuing then (s.setPatrol s.patrol.setBack.wait).clearWait else s

/-- The controller enters HALTED (R118, R119): a targeted scrub's command ends ABORTED, a candidate is
withdrawn, an entry in flight runs on. -/
def State.patrolHalt (s : State) : State :=
  match s.patrol.scrub with
  | none => s.patrolLeaveRunning
  | some _ =>
    let s := s.completeCommand .aborted
    let p : PatrolUnit := { s.patrol with scrub := none, activity := .background }
    if p.state = .issuing then (s.setPatrol p.rest).clearWait else s.setPatrol p

/-- The mode a value names (R106, 11.5), or the mode in effect where it names none. -/
def modeField (v : Word32) (old : PatrolMode) : PatrolMode :=
  match (v.extractLsb' 0 2).toNat with
  | 0 => .off
  | 1 => .single
  | 2 => .continuous
  | _ => old

/-- The interval a value gives, or the interval in effect where it gives 0 (R106). -/
def intervalField (v : Word32) (old : Nat) : Nat :=
  if (v.extractLsb' 16 12).toNat = 0 then old else (v.extractLsb' 16 12).toNat

/-- The effect of a change of PATROL_MODE by unit state and activity (R115); the new mode and interval
already stand in the state. -/
def State.patrolModeChanged (s : State) : State :=
  match s.patrol.activity with
  | .scrub => s
  | .background =>
    match s.patrol.state with
    | .off => if s.patrol.mode = .off then s else s.setPatrol s.patrol.wait
    | .waiting => if s.patrol.mode = .off then s.setPatrol s.patrol.turnOff else s
    | .issuing =>
      if s.patrol.mode = .off then (s.setPatrol s.patrol.setBack.turnOff).clearWait else s
    | .inFlight => s

/-- A write to PATROL_CFG (R106, R115). -/
def State.writePatrolCfg (s : State) (v : Word32) : State :=
  let m := modeField v s.patrol.mode
  let t := s.setPatrol { s.patrol with mode := m, interval := intervalField v s.patrol.interval }
  if m = s.patrol.mode then t else t.patrolModeChanged

/-- A targeted scrub starts (R116): the range is recorded and background work gives way. -/
def State.startScrub (s : State) (first last : Nat) : State :=
  let p : PatrolUnit := { s.patrol with
    scrub := some { first := first, last := last, cursor := first }, activity := .scrub }
  match p.state with
  | .off => (s.setPatrol p).scrubStep
  | .waiting => (s.setPatrol { p with timer := none }).scrubStep
  | .issuing => ((s.setPatrol p.setBack).clearWait).scrubStep
  | .inFlight => s.setPatrol p

/-- The line still qualifies at its grant (R111): for the sweep during background activity, as CHECKED during a
targeted scrub. -/
def State.patrolCheck (s : State) (line : Nat) : Bool :=
  match s.regionOf line with
  | none => false
  | some r =>
    match s.patrol.activity with
    | .background => r.swept
    | .scrub => r.scrubbed

/-- The check at grant fails: the line is passed over (R111). -/
def State.patrolPassOver (s : State) : State :=
  match s.patrol.activity with
  | .background => s.setPatrol s.patrol.wait
  | .scrub => (s.setPatrol { s.patrol with candidate := none }).scrubStep

/-- The check at grant passes: the PATROL entry is created and the Patrol Unit goes to IN_FLIGHT (R66, R111). -/
def State.patrolTakeOff (s : State) (line : Nat) : State :=
  let v := decide (s.patrol.activity = .background) || s.patrol.visited
  (s.createEntry .patrol line .checked).setPatrol
    { s.patrol with state := .inFlight, visited := v }

/-- The grant of the Patrol Unit's candidate (R111, R164); the wait count becomes 0 (R163). -/
def State.grantPatrol (s : State) : State :=
  match s.patrol.candidate with
  | none => s
  | some c =>
    if s.clearWait.patrolCheck c.line then s.clearWait.patrolTakeOff c.line
    else s.clearWait.patrolPassOver

end Sys2Proof.Machine
end

