-- ==== Sys2Proof/Machine/Halt.lean ====
section
/-!
DEFINITION. Entry to HALTED (R179) and its effects on the work in flight (R54, R102, R118, R168, R180, R181),
and the two policies that follow an uncorrectable demand outcome (R85, R86).
-/

namespace Sys2Proof.Machine

/-- The HALTED answer to a BLOCKED demand entry of a port (R168, R180). -/
def OpenEntry.haltAnswer (e : OpenEntry) (p : PortId) : Option Response :=
  match e.state with
  | .blocked _ =>
    match e.work with
    | .demandRead q t =>
      if q = p then some { port := p, tag := t, status := .halted, data := some 0, mask := 0 } else none
    | .demandWrite q t _ _ =>
      if q = p then some { port := p, tag := t, status := .halted, data := none, mask := 0 } else none
    | .patrol => none
    | .copyRead _ => none
  | .reading => none
  | .writing => none
  | .writeback => none

/-- The HALTED answer to a queued request (R168). -/
def queuedHaltAnswer (r : Request) (p : PortId) : Response :=
  { port := p, tag := r.tag, status := .halted, data := noData r.kind, mask := 0 }

/-- The halt's answers on one port: BLOCKED entries in grant order, then the queue from head to tail (R168). -/
def State.haltAnswers (s : State) (p : PortId) : List Response :=
  s.olt.order.filterMap (fun k => (s.entryAt k).bind (fun e => e.haltAnswer p)) ++
  (s.ports.get p).queue.map (fun r => queuedHaltAnswer r p)

/-- A port after the halt has given its answers: queue empty, their tags released (R168). -/
def Port.afterAnswers (q : Port) (rs : List Response) : Port :=
  { queue := [], tags := q.tags.filter (fun t => !rs.any (fun r => r.tag == t)) }

/-- Every port answers its BLOCKED entries and its queue with HALTED (R168; between ports log entry 11). -/
def State.haltPorts (s : State) : State :=
  let s' := s.setResponses
    (s.responses ++ s.haltAnswers .p0 ++ s.haltAnswers .p1 ++ s.haltAnswers .p2 ++ s.haltAnswers .p3)
  s'.setPorts
    { p0 := s.ports.p0.afterAnswers (s.haltAnswers .p0)
      p1 := s.ports.p1.afterAnswers (s.haltAnswers .p1)
      p2 := s.ports.p2.afterAnswers (s.haltAnswers .p2)
      p3 := s.ports.p3.afterAnswers (s.haltAnswers .p3) }

/-- Entries the halt removes: BLOCKED demand entries and a BLOCKED COPY_READ; PATROL entries stay (R180). -/
def OpenEntry.haltRemoves (e : OpenEntry) : Bool :=
  match e.state with
  | .blocked _ =>
    match e.work with
    | .patrol => false
    | .demandRead _ _ => true
    | .demandWrite _ _ _ _ => true
    | .copyRead _ => true
  | .reading => false
  | .writing => false
  | .writeback => false

/-- The slot holds an entry the halt removes. -/
def State.haltRemovesSlot (s : State) (k : Nat) : Bool :=
  match s.entryAt k with
  | some e => e.haltRemoves
  | none => false

/-- Remove the entries of a list of slots, one after another (R67: chains close over the gaps). -/
def removeEntries : List Nat → State → State
  | [], s => s
  | k :: ks, s => removeEntries ks (s.removeEntry k)

/-- The halt removes its entries from the Open-Line Table (R180). -/
def State.haltTable (s : State) : State :=
  removeEntries (s.olt.order.filter s.haltRemovesSlot) s

/-- A queued item whose command flag is set is removed, its command ends ABORTED, and the re-offers follow
(R102). -/
def State.haltRtq (s : State) : State :=
  if s.rtq.any (fun i => i.command) then
    ((s.setRtq (s.rtq.filter (fun i => !i.command))).completeCommand .aborted).reoffer
  else s

/-- A STOP in progress ends ABORTED (R181). -/
def State.haltStop (s : State) : State :=
  if s.runningIs .stop then s.completeCommand .aborted else s

/-- The HALTED record (R179). -/
def haltedRecord (line : Nat) : Record :=
  { Record.blank .halted .controller with line := some line }

/-- The controller enters HALTED for an uncorrectable demand outcome of a line (R179), with the effects of
R180 and R181 in the same event (log entry 20). -/
def State.enterHalted (s : State) (line : Nat) : State :=
  let s := s.setCtl { s.ctl with state := .halted, haltReason := .ueOnDemand }
  let s := (s.offer (haltedRecord line)).latch .halted
  s.haltPorts.haltTable.copyHalt.patrolHalt.haltRtq.haltStop

/-- The RETIRE_ON_UE offer (R85). -/
def State.retireOnUe (s : State) (line : Nat) : State :=
  if s.policy.retireOnUe then
    match s.rtqAnswer line with
    | .accepted => s.enqueue { line := line, action := .move, origin := .uePolicy, command := false }
    | .alreadyPending => s
    | .queueFull => s.count .rtqFull
  else s

/-- The HALT_ON_UE decision (R86). -/
def State.haltOnUe (s : State) (line : Nat) : State :=
  if s.policy.haltOnUe && decide (s.ctl.state = .running ∨ s.ctl.state = .draining) then s.enterHalted line
  else s

end Sys2Proof.Machine
end

