-- ==== Sys2Proof/Machine/Engine.lean ====
section
/-!
DEFINITION. The Line Engine: how an entry issues (R68, with R57 to R61, R69, R75, R76, R79 to R81) and the steps
that are due after an event (R41, R67, R173, R177, R178), which the model performs before any other command
acts (log entry 3).
-/

namespace Sys2Proof.Machine

/-! ## Issue (R68) -/

/-- The decode flag of a class (R8). -/
def CheckClass.decodes : CheckClass → Bool
  | .checked => true
  | .unchecked => false

/-- The POISON_HIT record (R57, R59, R73, R78). -/
def poisonHitRecord (port : PortId) (line : Nat) (place : Loc) : Record :=
  { Record.blank .poisonHit (.port port) with line := some line, place := some place }

/-- The entry of slot k reads its place (R68). -/
def State.issueEntryRead (s : State) (k : Nat) (e : OpenEntry) (l : Loc) (decoded : Bool) : State :=
  (s.issueRead l e.line decoded (.engine k)).putOpen k
    { e with place := some (.loc l), state := .reading }

/-- A demand read served from the copy buffer (R57). -/
def State.serveRead (s : State) (k : Nat) (e : OpenEntry) (port : PortId) (tag : Tag) : State :=
  if s.copy.buffer.poison then
    let s := s.answer { port := port, tag := tag, status := .poisoned, data := some 0, mask := 0 }
    ((s.offer (poisonHitRecord port e.line (s.sourceLoc e.line))).count .poison).removeEntry k
  else
    (s.answer { port := port, tag := tag, status := .ok, data := some s.copy.buffer.data, mask := 0 }).removeEntry k

/-- A demand write merged into the copy buffer, with its source write (R58, R59). -/
def State.mergeWrite (s : State) (k : Nat) (e : OpenEntry) (mask : ByteMask) (data : LineData) : State :=
  let merged := mergeBytes mask data s.copy.buffer.data
  let s := s.setCopy { s.copy with
    buffer := { s.copy.buffer with data := merged, poison := false }, dirty := true }
  (s.issueWrite (s.sourceLoc e.line) e.line merged (.engine k)).putOpen k
    { e with place := some .copyBuffer, state := .writing }

/-- A demand write whose place is the COPY BUFFER (R58, R59, R61, R69). -/
def State.issueBufferWrite (s : State) (k : Nat) (e : OpenEntry) (port : PortId) (tag : Tag)
    (mask : ByteMask) (data : LineData) : State :=
  if s.copy.hold then s.putOpen k { e with state := .blocked .copyHold }
  else if s.copy.buffer.poison && !fullMask mask then
    let s := s.answer { port := port, tag := tag, status := .poisoned, data := none, mask := 0 }
    ((s.offer (poisonHitRecord port e.line (s.sourceLoc e.line))).count .poison).removeEntry k
  else s.mergeWrite k e mask data

/-- A demand write at a location of the array: a full one writes (R75), a partial one reads first (R76, R79). -/
def State.issueArrayWrite (s : State) (k : Nat) (e : OpenEntry) (mask : ByteMask) (data : LineData)
    (l : Loc) : State :=
  if fullMask mask then
    (s.issueWrite l e.line data (.engine k)).putOpen k
      { e with place := some (.loc l), state := .writing }
  else s.issueEntryRead k e l e.cls.decodes

/-- A PATROL entry skipped at issue for a copying state (R80, R112). -/
def State.patrolSkip (s : State) (k : Nat) : State :=
  ((s.removeEntry k).count .patrolSkipped).patrolEntryRemoved

/-- The entry of slot k issues (R68). -/
def State.issueEntry (s : State) (k : Nat) : State :=
  match s.entryAt k with
  | none => s
  | some e =>
    match e.work with
    | .patrol =>
      if s.lineCopying e.line then s.patrolSkip k
      else s.issueEntryRead k e (s.sourceLoc e.line) true
    | .copyRead _ => s.issueEntryRead k e (s.sourceLoc e.line) e.cls.decodes
    | .demandRead port tag =>
      match s.lookup e.line with
      | .loc l => s.issueEntryRead k e l e.cls.decodes
      | .copyBuffer => s.serveRead k e port tag
    | .demandWrite port tag mask data =>
      match s.lookup e.line with
      | .loc l => s.issueArrayWrite k e mask data l
      | .copyBuffer => s.issueBufferWrite k e port tag mask data

/-! ## What is due -/

/-- An entry's turn has come and it may issue: in HALTED only a PATROL entry does (R67). -/
def OpenEntry.issueDue (e : OpenEntry) (c : CtlState) : Bool :=
  decide (e.state = .blocked .turn) && (decide (e.work = .patrol) || decide (c ≠ .halted))

/-- The entry of slot k is due to issue. -/
def State.slotDue (s : State) (k : Nat) : Bool :=
  match s.entryAt k with
  | some e => e.issueDue s.ctl.state
  | none => false

/-- The lowest slot whose entry is due to issue. -/
def State.dueSlot (s : State) : Option Nat :=
  (List.range s.olt.slots.length).find? (fun k => s.slotDue k)

/-- Issue due entries, at most n of them. -/
def issueDue : Nat → State → State
  | 0, s => s
  | n + 1, s =>
    match s.dueSlot with
    | none => s
    | some k => issueDue n (s.issueEntry k)

/-- Every due entry issues, and every entry whose turn comes by that (R67, R68); each issue leaves one entry
fewer that may still become due, so as many issues as slots suffice. -/
def State.settleIssues (s : State) : State := issueDue s.olt.slots.length s

/-- Start due items, at most n of them. -/
def startDueItems : Nat → State → State
  | 0, s => s
  | n + 1, s => if s.startDue then startDueItems n s.startItem else s

/-- Items start until one is being copied or none is left (R41); each start takes one item or waiting suspect
away, so the sum of both lists suffices. -/
def State.settleStarts (s : State) : State :=
  startDueItems (s.rtq.length + s.suspects.entries.length) s

/-- A fill write is outstanding (R172). -/
def State.fillOutstanding (s : State) : Bool := s.aif.ops.any (fun o => decide (o.issuer = .controller))

/-- The fill has ended (R173). -/
def State.fillEndDue (s : State) : Bool :=
  decide (s.ctl.state = .initializing ∧ s.ctl.initProgress = s.aif.size.logical) && !s.fillOutstanding

/-- The end of the fill (R173). -/
def State.endFill (s : State) : State :=
  (s.setCtl { s.ctl with state := .stopped }).completeCommand .done

/-- The drain condition (R177). -/
def State.drained (s : State) : Bool :=
  s.ports.p0.queue.isEmpty && s.ports.p1.queue.isEmpty && s.ports.p2.queue.isEmpty &&
  s.ports.p3.queue.isEmpty && s.oltEmpty && decide (s.copy.state = .idle) &&
  decide (s.patrol.state ≠ .inFlight)

/-- The drain ends (R177). -/
def State.drainDue (s : State) : Bool := decide (s.ctl.state = .draining) && s.drained

/-- Entry to STOPPED at the end of a drain or of a STOP in HALTED; HALT_REASON becomes NONE (R177, R178,
R182). -/
def State.enterStopped (s : State) : State :=
  (s.setCtl { s.ctl with state := .stopped, haltReason := .none }).completeCommand .done

/-- A STOP waiting in HALTED ends (R178). -/
def State.haltedStopDue (s : State) : Bool :=
  decide (s.ctl.state = .halted) && s.runningIs .stop && s.oltEmpty

/-- The end of a fill, of a drain or of a STOP in HALTED, when due. -/
def State.settleEnds (s : State) : State :=
  if s.fillEndDue then s.endFill
  else if s.drainDue then s.enterStopped
  else if s.haltedStopDue then s.enterStopped
  else s

/-- Everything the rules place in the same event as what has already happened (log entry 3): entries issue,
then items start, then fills, drains and stops end. -/
def State.settle (s : State) : State := s.settleIssues.settleStarts.settleEnds

/-- No step is due. -/
def State.settled (s : State) : Bool :=
  s.dueSlot.isNone && !s.startDue && !s.fillEndDue && !s.drainDue && !s.haltedStopDue

/-- A step begins: no response has been presented in it (log entry 10). -/
def State.newStep (s : State) : State := s.setResponses []

/-- A command other than a due step begins: what is due is performed first. -/
def State.opened (s : State) : State := s.newStep.settle

end Sys2Proof.Machine
end

