-- ==== Sys2Proof/Machine/Resets.lean ====
section
/-!
DEFINITION. The reset rows (R198): what each block's reset rules give (R16, R38, R39, R40, R55, R64, R84,
R87, R89, R97, R103, R105, R120, R134, R139, R142, R152, R160, R169, R174, R183, R187, R197).
-/

namespace Sys2Proof.Machine

/-- The outcome of a command. -/
abbrev Result := Host.Outcome State Fault Refusal

/-- Every block at its power-on values while PORST_N is asserted (R198); a response that an event before the reset formed
has been presented (R157; log entry 10); the queue of commands and the model's read counter are not the device's. -/
def State.powerOn (s : State) : State :=
  { State.reset with
    pins := { porst := true, wrst := s.pins.wrst }, responses := s.responses, freeReads := s.freeReads
    pending := s.pending }

/-- The entry in a copying state (R20: at most one). -/
def copyingEntry : List (Option RemapEntry) → Option RemapEntry
  | [] => none
  | none :: es => copyingEntry es
  | some e :: es => if e.state.copying? then some e else copyingEntry es

/-- The quiet abort of a warm reset (R39, R55): no record, no crossing. -/
def State.quietAbort (s : State) : State :=
  match copyingEntry s.lrt.slots with
  | none => s
  | some e => s.abortEntry e.line .free

/-- Every issued write is stored in its list's order, every read is discarded (R16). -/
def applyAll : List ArrayOp → Memory → Memory
  | [], m => m
  | op :: ops, m => applyAll ops (m.apply op)

/-- The controller after a warm reset (R183). -/
def Controller.warm (c : Controller) : Controller :=
  match c.state with
  | .uninit => { state := .uninit, haltReason := .none, initProgress := 0 }
  | .initializing => { state := .uninit, haltReason := .none, initProgress := 0 }
  | .stopped => { c with state := .stopped, haltReason := .none }
  | .running => { c with state := .stopped, haltReason := .none }
  | .draining => { c with state := .stopped, haltReason := .none }
  | .halted => { c with state := .stopped, haltReason := .none }

/-- The warm reset of every block (R198): the remap table, the spares, the regions with their staging fields,
the array size and the array contents are kept; a response that an event before the reset formed has been presented
(R157; log entry 10). -/
def State.warm (s : State) : State :=
  { pins := { porst := s.pins.porst, wrst := true }
    aif := { size := s.aif.size, ops := [], injection := none, mem := applyAll s.aif.ops s.aif.mem }
    lrt := s.quietAbort.lrt
    pool := { spares := s.quietAbort.pool.spares, lowLevel := 8 }
    copy := .reset
    olt := .empty
    policy := .reset
    suspects := .reset
    rtq := []
    patrol := .reset
    erq := .empty
    irq := .reset
    regions := s.regions
    ports := .empty
    arbiter := .reset
    ctl := s.ctl.warm
    cmd := .reset
    counters := .zero
    responses := s.responses
    freeReads := s.freeReads
    pending := s.pending }

/-- A reset input is deasserted (R198; log entry 14). -/
def State.releasePin (s : State) (pin : ResetPin) : State :=
  match pin with
  | .porst => s.setPins { s.pins with porst := false }
  | .wrst => s.setPins { s.pins with wrst := false }

/-- POWER_ON_RESET (R198). -/
def execPowerOnReset (s : State) : Result := .next s.opened.powerOn

/-- WARM_RESET (R198). -/
def execWarmReset (s : State) : Result := .next s.opened.warm

/-- RESET_RELEASE (R198). -/
def execResetRelease (pin : ResetPin) (s : State) : Result := .next (s.opened.releasePin pin)

end Sys2Proof.Machine
end

