-- ==== Sys2Proof/Machine/PortRows.lean ====
section
/-!
DEFINITION. The rows of the line ports and the Grant Arbiter: acceptance (R153, R155), the choice of a grant
(R160 to R163), the access check (R146, R147), and the grants (R164).
-/

namespace Sys2Proof.Machine

/-! ## Acceptance (R155) -/

/-- A response given at acceptance or at grant: zero data for a READ, an empty mask (R82, R155, R147). -/
def plainAnswer (p : PortId) (r : Request) (st : RespStatus) : Response :=
  { port := p, tag := r.tag, status := st, data := noData r.kind, mask := 0 }

/-- A request joins the tail of its port's queue and its tag the outstanding set (R155, R156). -/
def State.queueRequest (s : State) (p : PortId) (r : Request) : State :=
  s.setPorts (s.ports.set p
    { queue := (s.ports.get p).queue ++ [r], tags := (s.ports.get p).tags ++ [r.tag] })

/-- A request is presented (R153): accepted while ready is asserted, and then tested in the order of R155. -/
def State.acceptRequest (s : State) (p : PortId) (r : Request) : State :=
  if s.ready p then
    if r.tag ∈ (s.ports.get p).tags then s.present (plainAnswer p r .tagBusy)
    else
      match s.ctl.state with
      | .running => s.queueRequest p r
      | .halted => s.present (plainAnswer p r .halted)
      | .uninit => s.present (plainAnswer p r .notReady)
      | .initializing => s.present (plainAnswer p r .notReady)
      | .stopped => s.present (plainAnswer p r .notReady)
      | .draining => s.present (plainAnswer p r .notReady)
  else s

/-- REQUEST_ACCEPT (R155). -/
def execRequestAccept (p : PortId) (r : Request) (s : State) : Result := .next (s.opened.acceptRequest p r)

/-! ## The Grant Arbiter's choice (R160 to R163) -/

/-- The controller is RUNNING or DRAINING. -/
def CtlState.grants (c : CtlState) : Bool := decide (c = .running ∨ c = .draining)

/-- A slot's entry is the COPY_READ of an item number. -/
def isCopyReadOf (n : BitVec 16) (e : Option OpenEntry) : Bool :=
  match e with
  | some e => decide (e.work = .copyRead n)
  | none => false

/-- The Copy Unit is a candidate: in READ_SOURCE with its copy read not granted (R44, R161). -/
def State.copyCandidate (s : State) : Bool :=
  decide (s.copy.state = .readSource) && s.ctl.state.grants &&
  !s.olt.slots.any (isCopyReadOf s.copy.itemNo)

/-- The port after a port, cyclically (R162). -/
def nextPort : PortId → PortId
  | .p0 => .p1
  | .p1 => .p2
  | .p2 => .p3
  | .p3 => .p0

/-- The order in which ports are examined from the pointer on (R162). -/
def portScan (p : PortId) : List PortId :=
  [p, nextPort p, nextPort (nextPort p), nextPort (nextPort (nextPort p))]

/-- The first port from the pointer on whose queue is non-empty (R162), in RUNNING or DRAINING (R161). -/
def State.portCandidate (s : State) : Option PortId :=
  if s.ctl.state.grants then
    (portScan s.arbiter.pointer).find? (fun p => !(s.ports.get p).queue.isEmpty)
  else none

/-- What a grant can go to. -/
inductive Grant where
  | copyRead
  | patrol
  | port (p : PortId)
deriving DecidableEq, Repr

/-- The candidate a grant goes to by the precedence of R161, or none without an empty slot (R160) or candidate. -/
def State.choice (s : State) : Option Grant :=
  if s.emptySlot.isNone then none
  else if s.copyCandidate then some .copyRead
  else if s.patrolCandidate && decide (16 ≤ s.arbiter.patrolWait) then some .patrol
  else
    match s.portCandidate with
    | some p => some (.port p)
    | none => if s.patrolCandidate then some .patrol else none

/-! ## Port heads (R146, R147, R164) -/

/-- A port's bit in an access mask (R140: bit n for Pn). -/
def permits (mask : BitVec 4) (p : PortId) : Bool := mask.getLsbD p.index

/-- The ACCESS_DENIED record of a refused request (R147). -/
def deniedRecord (p : PortId) (r : Request) (d : DenyReason) : Record :=
  { Record.blank .accessDenied (.port p) with line := some r.line.toNat, detail := some (.denied d) }

/-- A request that fails the access check is answered in the event of its grant (R147). -/
def State.refuse (s : State) (p : PortId) (r : Request) (st : RespStatus) (d : DenyReason) : State :=
  (s.answer (plainAnswer p r st)).offer (deniedRecord p r d)

/-- The access check (R146) and what the request becomes (R164): refused, a zero-mask write answered OK (R74),
or an Open-Line Table entry with the region's class (R66, R148). -/
def State.grantHead (s : State) (p : PortId) (r : Request) : State :=
  match s.regionOf r.line.toNat with
  | none => s.refuse p r .unmapped .unmapped
  | some g =>
    match r.kind with
    | .read =>
      if permits g.readMask p then s.createEntry (.demandRead p r.tag) r.line.toNat g.cls
      else s.refuse p r .denied .port
    | .write mask data =>
      if permits g.writeMask p then
        if g.writeProtect then s.refuse p r .denied .writeProtect
        else if zeroMask mask then s.answer (plainAnswer p r .ok)
        else s.createEntry (.demandWrite p r.tag mask data) r.line.toNat g.cls
      else s.refuse p r .denied .port

/-- The arbiter after a port grant: the pointer moves past the port (R162), and the patrol wait count rises
while the Patrol Unit is ISSUING (R163). -/
def State.arbiterAfter (s : State) (p : PortId) : Arbiter :=
  { pointer := nextPort p
    patrolWait :=
      if s.patrol.state = .issuing then min 16 (s.arbiter.patrolWait + 1) else s.arbiter.patrolWait }

/-- The head of a port's queue is granted (R158, R164). -/
def State.grantPort (s : State) (p : PortId) : State :=
  match (s.ports.get p).queue with
  | [] => s
  | r :: rest =>
    ((s.setPorts (s.ports.set p { (s.ports.get p) with queue := rest })).setArbiter
      (s.arbiterAfter p)).grantHead p r

/-- A grant of the Grant Arbiter that goes to a port head. -/
def State.grantPortHead (s : State) : State :=
  match s.choice with
  | some (.port p) => s.grantPort p
  | some .copyRead => s
  | some .patrol => s
  | none => s

/-- GRANT_PORT_HEAD (R164). -/
def execGrantPortHead (s : State) : Result := .next s.opened.grantPortHead

/-! ## The copy read and the patrol (R44, R111, R164) -/

/-- The COPY_READ entry is created for the item's line with the class of R44 (R164). -/
def State.grantCopy (s : State) : State :=
  match s.copy.item with
  | none => s
  | some i => s.createEntry (.copyRead s.copy.itemNo) i.line (s.classOf i.line)

/-- A grant of the Grant Arbiter that goes to the Copy Unit. -/
def State.grantCopyRead (s : State) : State :=
  match s.choice with
  | some .copyRead => s.grantCopy
  | some (.port _) => s
  | some .patrol => s
  | none => s

/-- GRANT_COPY_READ (R44). -/
def execGrantCopyRead (s : State) : Result := .next s.opened.grantCopyRead

/-- A grant of the Grant Arbiter that goes to the Patrol Unit. -/
def State.grantPatrolUnit (s : State) : State :=
  match s.choice with
  | some .patrol => s.grantPatrol
  | some (.port _) => s
  | some .copyRead => s
  | none => s

/-- GRANT_PATROL (R111). -/
def execGrantPatrol (s : State) : Result := .next s.opened.grantPatrolUnit

end Sys2Proof.Machine
end

