-- ==== Sys2Proof/Machine/EngineRows.lean ====
section
/-!
DEFINITION. The Line Engine's rows: the issue of an entry (R68) and the completions of demand and patrol
operations (R70 to R80, R113, R114).
-/

namespace Sys2Proof.Machine

/-- The entry of slot k with its outstanding array operation, if that operation can complete (R12, R65). -/
def State.entryOp (s : State) (k : Nat) : Option (OpenEntry × ArrayOp) :=
  match s.entryAt k with
  | none => none
  | some e =>
    match s.completable (fun o => decide (o.issuer = .engine k)) with
    | none => none
    | some op => some (e, op)

/-- The location an entry works at (R22). -/
def OpenEntry.loc (e : OpenEntry) : Loc :=
  match e.place with
  | some (.loc l) => l
  | some .copyBuffer => .home
  | none => .home

/-- The entry works at the copy buffer (R58). -/
def OpenEntry.atBuffer (e : OpenEntry) : Bool := decide (e.place = some .copyBuffer)

/-- The CORRECTED record (R71, R76, R113). -/
def correctedRecord (src : RecordSource) (line : Nat) (l : Loc) (mask : WordMask) : Record :=
  { Record.blank .corrected src with
    line := some line, place := some l, mask := some mask, repeats := some 1 }

/-- The UNCORRECTABLE record (R45, R72, R77, R113). -/
def uncorrectableRecord (src : RecordSource) (line : Nat) (l : Loc) (mask : WordMask) : Record :=
  { Record.blank .uncorrectable src with line := some line, place := some l, mask := some mask }

/-- What a CORRECTED outcome makes: its record, its counter and the Suspect List's update (R71, R76, R113). -/
def State.reportCorrected (s : State) (src : RecordSource) (line : Nat) (l : Loc) (mask : WordMask) : State :=
  ((s.offer (correctedRecord src line l mask)).count .corrected).suspectUpdate line l mask

/-- What an UNCORRECTABLE outcome makes: its record and its counter (R45, R72, R77, R113). -/
def State.reportUncorrectable (s : State) (src : RecordSource) (line : Nat) (l : Loc) (mask : WordMask) : State :=
  (s.offer (uncorrectableRecord src line l mask)).count .uncorrectable

/-! ## ENTRY_ISSUE -/

/-- The entry of slot k issues if its turn has come (R67, R68). -/
def State.issueIfDue (s : State) (k : Nat) : State := if s.slotDue k then s.issueEntry k else s

/-- ENTRY_ISSUE (R68). -/
def execEntryIssue (slot : Nat) (s : State) : Result := .next (s.newStep.issueIfDue slot)

/-! ## DEMAND_READ_COMPLETE (R70 to R73) -/

/-- The outcome CORRECTED (R71): answered, reported, and written back under WRITEBACK_ON_CORRECT. -/
def State.readCorrected (s : State) (k : Nat) (e : OpenEntry) (p : PortId) (t : Tag) (r : LineRead) : State :=
  let s := s.answer { port := p, tag := t, status := .corrected, data := some r.data, mask := r.corrected }
  let s := s.reportCorrected (.port p) e.line e.loc r.corrected
  if s.policy.writebackOnCorrect then
    (s.issueWrite e.loc e.line r.data (.engine k)).putOpen k
      { e with state := .writeback, result := some { outcome := r.outcome, corrected := r.corrected } }
  else s.removeEntry k

/-- The outcome UNCORRECTABLE (R72): answered DATA_ERROR, reported, then the policies (R85, R86). -/
def State.readUncorrectable (s : State) (k : Nat) (e : OpenEntry) (p : PortId) (t : Tag) (r : LineRead) : State :=
  let s := s.answer { port := p, tag := t, status := .dataError, data := some r.data, mask := r.corrected }
  let s := s.reportUncorrectable (.port p) e.line e.loc r.errors
  ((s.retireOnUe e.line).removeEntry k).haltOnUe e.line

/-- The outcome POISONED (R73). -/
def State.readPoisoned (s : State) (k : Nat) (e : OpenEntry) (p : PortId) (t : Tag) : State :=
  let s := s.answer { port := p, tag := t, status := .poisoned, data := some 0, mask := 0 }
  ((s.offer (poisonHitRecord p e.line e.loc)).count .poison).removeEntry k

/-- A demand read answered OK (R70). -/
def State.readOk (s : State) (k : Nat) (p : PortId) (t : Tag) (d : LineData) : State :=
  (s.answer { port := p, tag := t, status := .ok, data := some d, mask := 0 }).removeEntry k

/-- A decoded demand read completes, by line outcome (R70 to R73). -/
def State.readDecoded (s : State) (k : Nat) (e : OpenEntry) (p : PortId) (t : Tag) (r : LineRead) : State :=
  match r.outcome with
  | .clean => s.readOk k p t r.data
  | .corrected => s.readCorrected k e p t r
  | .uncorrectable => s.readUncorrectable k e p t r
  | .poisoned => s.readPoisoned k e p t

/-- The READ_LINE of a DEMAND_READ completes (R70 to R73). -/
def State.demandReadDone (s : State) (k : Nat) : State :=
  match s.entryOp k with
  | none => s
  | some (e, op) =>
    match e.work, e.state, op.kind with
    | .demandRead p t, .reading, .readLine true =>
      (s.finishOp op).readDecoded k e p t (s.decodedRead op.phys)
    | .demandRead p t, .reading, .readLine false => (s.finishOp op).readOk k p t (s.rawRead op.phys)
    | _, _, _ => s

/-- DEMAND_READ_COMPLETE (R70). -/
def execDemandReadComplete (slot : Nat) (s : State) : Result := .next (s.opened.demandReadDone slot)

/-! ## PARTIAL_WRITE_READ_COMPLETE (R76 to R79) -/

/-- The merged line is written to the entry's place (R76, R79). -/
def State.writeMerged (s : State) (k : Nat) (e : OpenEntry) (mask : ByteMask) (data old : LineData)
    (res : Option EntryResult) : State :=
  (s.issueWrite e.loc e.line (mergeBytes mask data old) (.engine k)).putOpen k
    { e with state := .writing, result := res }

/-- The outcome UNCORRECTABLE of a partial write's read: the line is poisoned (R77). -/
def State.partialUncorrectable (s : State) (k : Nat) (e : OpenEntry) (p : PortId) (r : LineRead) : State :=
  let s := s.issuePoison e.loc e.line (.engine k)
  let s := s.putOpen k
    { e with state := .writing, result := some { outcome := r.outcome, corrected := r.corrected } }
  s.reportUncorrectable (.port p) e.line e.loc r.errors

/-- The outcome POISONED of a partial write's read: answered, nothing written (R78). -/
def State.partialPoisoned (s : State) (k : Nat) (e : OpenEntry) (p : PortId) (t : Tag) : State :=
  let s := s.answer { port := p, tag := t, status := .poisoned, data := none, mask := 0 }
  ((s.offer (poisonHitRecord p e.line e.loc)).count .poison).removeEntry k

/-- A decoded read of a partial write completes, by line outcome (R76 to R78). -/
def State.partialDecoded (s : State) (k : Nat) (e : OpenEntry) (p : PortId) (t : Tag) (mask : ByteMask)
    (data : LineData) (r : LineRead) : State :=
  match r.outcome with
  | .clean => s.writeMerged k e mask data r.data (some { outcome := .clean, corrected := r.corrected })
  | .corrected =>
    (s.reportCorrected (.port p) e.line e.loc r.corrected).writeMerged k e mask data r.data
      (some { outcome := .corrected, corrected := r.corrected })
  | .uncorrectable => s.partialUncorrectable k e p r
  | .poisoned => s.partialPoisoned k e p t

/-- The READ_LINE of a partial DEMAND_WRITE completes (R76 to R79). -/
def State.partialReadDone (s : State) (k : Nat) : State :=
  match s.entryOp k with
  | none => s
  | some (e, op) =>
    match e.work, e.state, op.kind with
    | .demandWrite p t mask data, .reading, .readLine true =>
      (s.finishOp op).partialDecoded k e p t mask data (s.decodedRead op.phys)
    | .demandWrite _ _ mask data, .reading, .readLine false =>
      (s.finishOp op).writeMerged k e mask data (s.rawRead op.phys) none
    | _, _, _ => s

/-- PARTIAL_WRITE_READ_COMPLETE (R76). -/
def execPartialWriteReadComplete (slot : Nat) (s : State) : Result := .next (s.opened.partialReadDone slot)

/-! ## Write completions (R60, R71, R75 to R77, R79) -/

/-- The status of a completed write by its read result (R75, R76, R79). -/
def writeStatus : Option EntryResult → RespStatus
  | none => .ok
  | some r => if r.outcome = .corrected then .corrected else .ok

/-- The corrected-word mask of a completed write by its read result (R75, R76, R77). -/
def writeMask : Option EntryResult → WordMask
  | none => 0
  | some r => r.corrected

/-- The read result is UNCORRECTABLE, so the write in flight is the poison write of R77. -/
def OpenEntry.poisoning (e : OpenEntry) : Bool :=
  match e.result with
  | some r => decide (r.outcome = .uncorrectable)
  | none => false

/-- A demand write's WRITE_LINE at a location completes (R75, R76, R79). -/
def State.demandWriteDone (s : State) (k : Nat) : State :=
  match s.entryOp k with
  | none => s
  | some (e, op) =>
    match e.work, e.state with
    | .demandWrite p t _ _, .writing =>
      if e.atBuffer || e.poisoning then s
      else
        ((s.finishOp op).answer
          { port := p, tag := t, status := writeStatus e.result, data := none,
            mask := writeMask e.result }).removeEntry k
    | _, _ => s

/-- DEMAND_WRITE_COMPLETE (R75). -/
def execDemandWriteComplete (slot : Nat) (s : State) : Result := .next (s.opened.demandWriteDone slot)

/-- The WRITE_POISON of an uncorrectable partial write completes (R77): DATA_ERROR, then the policies. -/
def State.poisonWriteDone (s : State) (k : Nat) : State :=
  match s.entryOp k with
  | none => s
  | some (e, op) =>
    match e.work, e.state with
    | .demandWrite p t _ _, .writing =>
      if !e.atBuffer && e.poisoning then
        let s := (s.finishOp op).answer
          { port := p, tag := t, status := .dataError, data := none, mask := writeMask e.result }
        ((s.retireOnUe e.line).removeEntry k).haltOnUe e.line
      else s
    | _, _ => s

/-- RMW_POISON_WRITE_COMPLETE (R77). -/
def execRmwPoisonWriteComplete (slot : Nat) (s : State) : Result := .next (s.opened.poisonWriteDone slot)

/-- The source write of a write merged into the copy buffer completes (R60). -/
def State.sourceWriteDone (s : State) (k : Nat) : State :=
  match s.entryOp k with
  | none => s
  | some (e, op) =>
    match e.work, e.state with
    | .demandWrite p t _ _, .writing =>
      if e.atBuffer then
        ((s.finishOp op).answer
          { port := p, tag := t, status := .ok, data := none, mask := 0 }).removeEntry k
      else s
    | _, _ => s

/-- SOURCE_WRITE_COMPLETE (R60). -/
def execSourceWriteComplete (slot : Nat) (s : State) : Result := .next (s.opened.sourceWriteDone slot)

/-- A demand read's write-back completes: no second response (R71). -/
def State.writebackDone (s : State) (k : Nat) : State :=
  match s.entryOp k with
  | none => s
  | some (e, op) =>
    match e.work, e.state with
    | .demandRead _ _, .writeback => (s.finishOp op).removeEntry k
    | _, _ => s

/-- WRITEBACK_COMPLETE (R71). -/
def execWritebackComplete (slot : Nat) (s : State) : Result := .next (s.opened.writebackDone slot)

/-! ## Patrol completions (R80, R113, R114) -/

/-- The source of a patrol record: by the line owner, whatever the activity (R113). -/
def State.patrolSource (s : State) : RecordSource :=
  match s.patrol.candidate with
  | some c => if c.owner = .scrub then .scrub else .patrol
  | none => .patrol

/-- The PATROL entry is removed, and the Patrol Unit goes on (R80, R114). -/
def State.endPatrolEntry (s : State) (k : Nat) : State := (s.removeEntry k).patrolEntryRemoved

/-- A patrol read completes with a line outcome (R80, R113). -/
def State.patrolOutcome (s : State) (k : Nat) (e : OpenEntry) (r : LineRead) : State :=
  let s := s.count .patrolLines
  match r.outcome with
  | .clean => s.endPatrolEntry k
  | .corrected =>
    ((s.reportCorrected s.patrolSource e.line e.loc r.corrected).issueWrite e.loc e.line r.data
      (.engine k)).putOpen k
      { e with state := .writeback, result := some { outcome := r.outcome, corrected := r.corrected } }
  | .uncorrectable =>
    let s := s.reportUncorrectable s.patrolSource e.line e.loc r.errors
    if s.policy.poisonOnUe then
      (s.issuePoison e.loc e.line (.engine k)).putOpen k
        { e with state := .writeback, result := some { outcome := r.outcome, corrected := r.corrected } }
    else s.endPatrolEntry k
  | .poisoned => (s.count .poisonSeen).endPatrolEntry k

/-- The READ_LINE of a PATROL entry completes (R80, R113). -/
def State.patrolReadDone (s : State) (k : Nat) : State :=
  match s.entryOp k with
  | none => s
  | some (e, op) =>
    match e.work, e.state, op.kind with
    | .patrol, .reading, .readLine true => (s.finishOp op).patrolOutcome k e (s.decodedRead op.phys)
    | _, _, _ => s

/-- PATROL_READ_COMPLETE (R113). -/
def execPatrolReadComplete (slot : Nat) (s : State) : Result := .next (s.opened.patrolReadDone slot)

/-- A scrub write or patrol poison write completes (R80, R114). -/
def State.scrubWriteDone (s : State) (k : Nat) : State :=
  match s.entryOp k with
  | none => s
  | some (e, op) =>
    match e.work, e.state with
    | .patrol, .writeback => (s.finishOp op).endPatrolEntry k
    | _, _ => s

/-- SCRUB_WRITE_COMPLETE (R114). -/
def execScrubWriteComplete (slot : Nat) (s : State) : Result := .next (s.opened.scrubWriteDone slot)

end Sys2Proof.Machine
end

