-- ==== Sys2Proof/Machine/CopyRows.lean ====
section
/-!
DEFINITION. The Copy Unit's rows: the start of an item (R41), the completions of its copy read (R45), target
write (R47) and verify read (R48), and the discarded completions of items that have ended (R56).
-/

namespace Sys2Proof.Machine

/-! ## COPY_READ_COMPLETE (R45) -/

/-- The copy buffer filled (R45). -/
def State.fillBuffer (s : State) (d : LineData) (poison : Bool) : State :=
  s.setCopy { s.copy with buffer := { data := d, poison := poison, valid := true } }

/-- The buffer filled from a decoded copy read, by line outcome (R45). -/
def State.fillDecoded (s : State) (line : Nat) (l : Loc) (r : LineRead) : State :=
  match r.outcome with
  | .clean => s.fillBuffer r.data false
  | .corrected => s.fillBuffer r.data false
  | .uncorrectable => (s.fillBuffer r.data true).reportUncorrectable .copy line l r.errors
  | .poisoned => s.fillBuffer r.data true

/-- An item number is the current item's and the Copy Unit is not IDLE (R56). -/
def State.currentItem (s : State) (n : BitVec 16) : Bool :=
  decide (s.copy.state ≠ .idle ∧ n = s.copy.itemNo)

/-- The COPY_READ entry is removed and the target write issues (R45, R46); the entry that waited issues before
the target write or after it (R62; log entry 12). -/
def State.afterCopyRead (s : State) (k : Nat) (waiterFirst : Bool) : State :=
  if waiterFirst then (s.removeEntry k).settleIssues.issueTarget else (s.removeEntry k).issueTarget

/-- The copy read of the current item completes (R45). -/
def State.copyReadDone (s : State) (k : Nat) (waiterFirst : Bool) : State :=
  match s.entryOp k with
  | none => s
  | some (e, op) =>
    match e.work, e.state, op.kind with
    | .copyRead n, .reading, .readLine true =>
      if s.currentItem n then
        ((s.finishOp op).fillDecoded e.line e.loc (s.decodedRead op.phys)).afterCopyRead k waiterFirst
      else s
    | .copyRead n, .reading, .readLine false =>
      if s.currentItem n then
        ((s.finishOp op).fillBuffer (s.rawRead op.phys) false).afterCopyRead k waiterFirst
      else s
    | _, _, _ => s

/-- COPY_READ_COMPLETE (R45). -/
def execCopyReadComplete (slot : Nat) (waiterFirst : Bool) (s : State) : Result :=
  .next (s.opened.copyReadDone slot waiterFirst)

/-! ## TARGET_WRITE_COMPLETE and VERIFY_COMPLETE (R47 to R52) -/

/-- The operation is a READ_LINE. -/
def ArrayOpKind.isRead : ArrayOpKind → Bool
  | .readLine _ => true
  | .writeLine _ => false
  | .writePoison => false

/-- The Copy Unit's own outstanding operation of a kind, if it can complete (R12, R40). -/
def State.copyOp (s : State) (read : Bool) : Option ArrayOp :=
  s.completable (fun o => decide (o.issuer = .copyUnit s.copy.itemNo) && (o.kind.isRead == read))

/-- The target write completes and the verify read issues (R47). -/
def State.targetWriteDone (s : State) : State :=
  match s.copy.state, s.copyOp false with
  | .writeTarget, some op => (s.finishOp op).issueVerify
  | _, _ => s

/-- TARGET_WRITE_COMPLETE (R47). -/
def execTargetWriteComplete (s : State) : Result := .next s.opened.targetWriteDone

/-- The verify read completes with an outcome (R48 to R52). -/
def State.verifyOutcome (s : State) (i : RetireItem) (o : LineOutcome) : State :=
  if expectedIs s.copy.expected o then s.verifyGood i else s.verifyFailed i

/-- The verify read completes (R48). -/
def State.verifyDone (s : State) : State :=
  match s.copy.state, s.copy.item, s.copyOp true with
  | .verify, some i, some op => (s.finishOp op).verifyOutcome i (s.decodedRead op.phys).outcome
  | _, _, _ => s

/-- VERIFY_COMPLETE (R48). -/
def execVerifyComplete (s : State) : Result := .next s.opened.verifyDone

/-! ## LATE_COMPLETION (R56) -/

/-- The COPY_READ entry of an ended item completes: discarded, the entry removed (R56, R81). -/
def State.lateEntry (s : State) (k : Nat) : State :=
  match s.entryOp k with
  | none => s
  | some (e, op) =>
    match e.work, e.state with
    | .copyRead n, .reading =>
      if s.currentItem n then s else (s.finishOp op).removeEntry k
    | _, _ => s

/-- A target write or verify read of an ended item completes in its physical line's order: discarded (R56). -/
def State.lateArray (s : State) (phys : Nat) : State :=
  match s.headOp phys with
  | none => s
  | some op =>
    match op.issuer with
    | .copyUnit n => if s.currentItem n then s else s.finishOp op
    | .engine _ => s
    | .controller => s

/-- A completion of an ended item's operation. -/
def State.lateDone (s : State) : LateOp → State
  | .entry k => s.lateEntry k
  | .array phys => s.lateArray phys

/-- LATE_COMPLETION (R56). -/
def execLateCompletion (op : LateOp) (s : State) : Result := .next (s.opened.lateDone op)

/-! ## ITEM_START (R41) -/

/-- An item starts if the conditions of R41 hold. -/
def State.startIfDue (s : State) : State := if s.startDue then s.startItem else s

/-- ITEM_START (R41); entries whose turn has come issue first (R53). -/
def execItemStart (s : State) : Result := .next s.newStep.settleIssues.startIfDue

end Sys2Proof.Machine
end

