-- ==== Sys2Proof/Machine/ControllerRows.lean ====
section
/-!
DEFINITION. The rows of the patrol timer (R107), of the Controller's fill (R172, R173) and drains (R177, R178),
and of the array's cells (R6).
-/

namespace Sys2Proof.Machine

/-! ## PATROL_TIMER_EXPIRY (R107) -/

/-- The interval timer expires; a stopped timer has no expiry (R107). -/
def State.expireTimer (s : State) : State :=
  match s.patrol.timer with
  | none => s
  | some _ => s.timerExpiry

/-- PATROL_TIMER_EXPIRY (R107). -/
def execPatrolTimerExpiry (s : State) : Result := .next s.opened.expireTimer

/-! ## The INIT fill (R172, R173) -/

/-- The fill write of the next logical line issues (R172). -/
def State.fillIssue (s : State) : State :=
  if s.ctl.state = .initializing ∧ s.ctl.initProgress < s.aif.size.logical then
    (s.issueWrite (s.sourceLoc s.ctl.initProgress) s.ctl.initProgress 0 .controller).setCtl
      { s.ctl with initProgress := s.ctl.initProgress + 1 }
  else s

/-- FILL_WRITE_ISSUE (R172). -/
def execFillWriteIssue (s : State) : Result := .next s.opened.fillIssue

/-- The fill write of a logical line completes (R172). -/
def State.fillDone (s : State) (line : Nat) : State :=
  match s.completable (fun o => decide (o.issuer = .controller ∧ o.line = line)) with
  | none => s
  | some op => s.finishOp op

/-- FILL_WRITE_COMPLETE (R172). -/
def execFillWriteComplete (line : Nat) (s : State) : Result := .next (s.opened.fillDone line)

/-- The fill ends if the conditions of R173 hold. -/
def State.endFillIfDue (s : State) : State := if s.fillEndDue then s.endFill else s

/-- INIT_FILL_END (R173). -/
def execInitFillEnd (s : State) : Result := .next s.newStep.settleIssues.settleStarts.endFillIfDue

/-! ## The ends of drains (R177, R178) -/

/-- The drain ends if the drain condition holds (R177). -/
def State.endDrainIfDue (s : State) : State := if s.drainDue then s.enterStopped else s

/-- DRAIN_COMPLETE (R177). -/
def execDrainComplete (s : State) : Result := .next s.newStep.settleIssues.settleStarts.endDrainIfDue

/-- A STOP waiting in HALTED ends if the Open-Line Table is empty (R178). -/
def State.endHaltIfDue (s : State) : State := if s.haltedStopDue then s.enterStopped else s

/-- HALTED_STOP_COMPLETE (R178). -/
def execHaltedStopComplete (s : State) : Result :=
  .next s.newStep.settleIssues.settleStarts.endHaltIfDue

/-! ## ARRAY_CELL_FAULT (R6) -/

/-- The named bits of a stored word are in error from now on (R6; log entry 9). -/
def StoredLine.damage (l : StoredLine) (word : Nat) (bits : BitVec 72) : StoredLine :=
  { l with errs := l.errs ||| errBits word bits }

/-- Cells of a physical line fail; undefined contents stay undefined (R16). -/
def State.cellFault (s : State) (phys word : Nat) (bits : BitVec 72) : State :=
  match s.aif.mem.get phys with
  | none => s
  | some l => s.setAif { s.aif with mem := s.aif.mem.set phys (l.damage word bits) }

/-- ARRAY_CELL_FAULT (R6). -/
def execArrayCellFault (phys word : Nat) (bits : BitVec 72) (s : State) : Result :=
  if phys < s.opened.aif.size.lines ∧ word < 8 then .next (s.opened.cellFault phys word bits)
  else .fault .noSuchCell

end Sys2Proof.Machine
end

