-- ==== Sys2Proof/Machine/Commands.lean ====
section
/-!
DEFINITION. The maintenance commands as the command slot takes them (R189 to R196): the codes, the states each
is taken in (R193), each command's own tests and actions, and the refusal of R190.
-/

namespace Sys2Proof.Machine

/-! ## Codes and states (R193) -/

/-- The command a code names (R193), compared as a full 32-bit value (R189). -/
def commandOf (code : Word32) : Option Command :=
  match code.toNat with
  | 1 => some .init
  | 2 => some .start
  | 3 => some .stop
  | 4 => some .setRegion
  | 5 => some .clearRegion
  | 6 => some .retire
  | 7 => some .release
  | 8 => some .loadRemap
  | 9 => some .markSpareBad
  | 10 => some .scrub
  | 11 => some .inject
  | 12 => some .clearSuspects
  | _ => none

/-- The code of a command (R193). -/
def Command.code : Command → Word32
  | .init => 1
  | .start => 2
  | .stop => 3
  | .setRegion => 4
  | .clearRegion => 5
  | .retire => 6
  | .release => 7
  | .loadRemap => 8
  | .markSpareBad => 9
  | .scrub => 10
  | .inject => 11
  | .clearSuspects => 12

/-- The controller states a command is taken in (R193). -/
def Command.takenIn (c : Command) (x : CtlState) : Bool :=
  match c with
  | .init => decide (x = .uninit ∨ x = .stopped)
  | .start => decide (x = .stopped)
  | .stop => decide (x = .running ∨ x = .halted ∨ x = .stopped)
  | .setRegion => decide (x ≠ .initializing)
  | .clearRegion => decide (x ≠ .initializing)
  | .retire => decide (x = .running)
  | .release => decide (x = .running)
  | .loadRemap => decide (x = .uninit ∨ x = .stopped)
  | .markSpareBad => decide (x ≠ .initializing)
  | .scrub => decide (x = .running)
  | .inject => decide (x = .running ∨ x = .stopped)
  | .clearSuspects => true

/-! ## The commands' own tests and actions -/

/-- INIT (R171): the slot is held until the fill ends (R173). -/
def State.takeInit (s : State) : State :=
  let s := s.holdSlot .init
  let s := s.setCtl { s.ctl with state := .initializing, initProgress := 0 }
  let s := (s.setSuspectEntries []).setRtq []
  s.setPatrol { s.patrol with cursor := 0, visited := false }

/-- START (R175). -/
def State.takeStart (s : State) : State :=
  (s.setCtl { s.ctl with state := .running }).completeCommand .done

/-- STOP in RUNNING (R176, R177): the patrol's candidate is withdrawn (R119), and a drain that is already complete
ends in the same event. -/
def State.stopRunning (s : State) : State :=
  let s := (s.setCtl { s.ctl with state := .draining }).patrolLeaveRunning
  if s.drained then s.enterStopped else s.holdSlot .stop

/-- STOP in HALTED (R178). -/
def State.stopHalted (s : State) : State :=
  if s.oltEmpty then s.enterStopped else s.holdSlot .stop

/-- STOP (R176, R178): in STOPPED it completes at once and changes nothing. -/
def State.takeStop (s : State) : State :=
  match s.ctl.state with
  | .running => s.stopRunning
  | .halted => s.stopHalted
  | .stopped => s.completeCommand .done
  | .uninit => s.completeCommand .wrongState
  | .initializing => s.completeCommand .wrongState
  | .draining => s.completeCommand .wrongState

/-- A region entry meets the range from `base` to `limit`. -/
def overlaps (base limit : Nat) (r : Option Region) : Bool :=
  match r with
  | some r => decide (r.base ≤ limit ∧ base ≤ r.limit)
  | none => false

/-- A valid entry other than the indexed one has a line in the staged range (R143). -/
def State.stageOverlaps (s : State) (index : Nat) : Bool :=
  (s.regions.entries.set index none).any (overlaps s.regions.stage.base s.regions.stage.limit)

/-- An entry of the Region Table replaced. -/
def State.putRegion (s : State) (index : Nat) (r : Option Region) : State :=
  s.setRegions { s.regions with entries := s.regions.entries.set index r }

/-- SET_REGION (R143): the tests in their order, then the entry takes the staged fields. -/
def State.takeSetRegion (s : State) : State :=
  if 7 < s.cmd.arg0.toNat then s.completeCommand .badArgument
  else if s.regions.stage.limit < s.regions.stage.base then s.completeCommand .badArgument
  else if s.aif.size.logical ≤ s.regions.stage.limit then s.completeCommand .badArgument
  else if s.stageOverlaps s.cmd.arg0.toNat then s.completeCommand .overlap
  else (s.putRegion s.cmd.arg0.toNat (some s.regions.stage)).completeCommand .done

/-- CLEAR_REGION (R144). -/
def State.takeClearRegion (s : State) : State :=
  if 7 < s.cmd.arg0.toNat then s.completeCommand .badArgument
  else (s.putRegion s.cmd.arg0.toNat none).completeCommand .done

/-- A command's item is offered to the Retirement Queue (R194, R195): a refusal completes the command, an
acceptance holds the slot. -/
def State.offerCommandItem (s : State) (c : Command) (line : Nat) (a : ItemAction) : State :=
  match s.rtqAnswer line with
  | .accepted => (s.holdSlot c).enqueue { line := line, action := a, origin := .command, command := true }
  | .alreadyPending => s.completeCommand .alreadyPending
  | .queueFull => s.completeCommand .queueFull

/-- RETIRE (R194). -/
def State.takeRetire (s : State) : State :=
  if s.aif.size.logical ≤ s.cmd.arg0.toNat then s.completeCommand .badArgument
  else s.offerCommandItem .retire s.cmd.arg0.toNat .move

/-- RELEASE (R195). -/
def State.takeRelease (s : State) : State :=
  if s.aif.size.logical ≤ s.cmd.arg0.toNat then s.completeCommand .notRemapped
  else s.offerCommandItem .release s.cmd.arg0.toNat .release

/-- The entry LOAD_REMAP creates (R36). -/
def restoredEntry (line spare : Nat) : RemapEntry :=
  { line := line, state := .active spare 1, origin := .restore }

/-- LOAD_REMAP (R36): the tests in their order, then an ACTIVE entry with origin RESTORE. -/
def State.takeLoadRemap (s : State) : State :=
  if s.aif.size.logical ≤ s.cmd.arg0.toNat ∨ 127 < s.cmd.arg1.toNat then s.completeCommand .badArgument
  else if (s.entryOf s.cmd.arg0.toNat).isSome then s.completeCommand .remapped
  else if s.pool.get s.cmd.arg1.toNat ≠ .free then s.completeCommand .spareNotFree
  else
    ((s.takeSpare s.cmd.arg1.toNat .held).addEntry
      (restoredEntry s.cmd.arg0.toNat s.cmd.arg1.toNat)).completeCommand .done

/-- The SPARE_BAD record of a MARK_SPARE_BAD (R123): the line is absent. -/
def markBadRecord (spare : Nat) : Record :=
  { Record.blank .spareBad .command with spare := some spare }

/-- MARK_SPARE_BAD (R37, R123). -/
def State.takeMarkSpareBad (s : State) : State :=
  if 127 < s.cmd.arg0.toNat then s.completeCommand .badArgument
  else
    match s.pool.get s.cmd.arg0.toNat with
    | .free =>
      ((s.takeSpare s.cmd.arg0.toNat .bad).offer (markBadRecord s.cmd.arg0.toNat)).completeCommand .done
    | .bad => s.completeCommand .done
    | .held => s.completeCommand .spareNotFree

/-- SCRUB (R116): the slot is held until the scrub ends, which may be at its first step (R189). -/
def State.takeScrub (s : State) : State :=
  if s.cmd.arg1.toNat < s.cmd.arg0.toNat ∨ s.aif.size.logical ≤ s.cmd.arg1.toNat then
    s.completeCommand .badArgument
  else (s.holdSlot .scrub).startScrub s.cmd.arg0.toNat s.cmd.arg1.toNat

/-- The arguments of INJECT lie in their ranges (R196). -/
def State.injectOk (s : State) : Bool :=
  decide (s.cmd.arg0.toNat < s.aif.size.logical ∧ s.cmd.arg1.toNat ≤ 7 ∧
    (s.cmd.arg2.toNat = 1 ∨ s.cmd.arg2.toNat = 2))

/-- INJECT (R14, R196): a new injection replaces an armed one. -/
def State.takeInject (s : State) : State :=
  if s.injectOk then
    (s.setAif { s.aif with
      injection := some { line := s.cmd.arg0.toNat, word := s.cmd.arg1.toNat,
                          bits := s.cmd.arg2.toNat } }).completeCommand .done
  else s.completeCommand .badArgument

/-- CLEAR_SUSPECTS (R99). -/
def State.takeClearSuspects (s : State) : State := (s.setSuspectEntries []).completeCommand .done

/-- A command's own tests and actions (R189, step 3). -/
def State.take (s : State) : Command → State
  | .init => s.takeInit
  | .start => s.takeStart
  | .stop => s.takeStop
  | .setRegion => s.takeSetRegion
  | .clearRegion => s.takeClearRegion
  | .retire => s.takeRetire
  | .release => s.takeRelease
  | .loadRemap => s.takeLoadRemap
  | .markSpareBad => s.takeMarkSpareBad
  | .scrub => s.takeScrub
  | .inject => s.takeInject
  | .clearSuspects => s.takeClearSuspects

/-- A known command is tested against the controller state (R189, step 2; R193). -/
def State.tryTake (s : State) (c : Command) : State :=
  if c.takenIn s.ctl.state then s.take c else s.completeCommand .wrongState

/-- A write to CMD_CODE while the slot is not busy (R189). -/
def State.takeCode (s : State) (code : Word32) : State :=
  match commandOf code with
  | none => s.completeCommand .unknown
  | some c => s.tryTake c

/-- A write to CMD_CODE: refused while the slot is busy (R190), otherwise taken (R189). -/
def State.writeCode (s : State) (code : Word32) : State :=
  if s.busy then s.setCmd { s.cmd with refused := true } else s.takeCode code

end Sys2Proof.Machine
end

