-- ==== Sys2Proof/Machine/Window.lean ====
section
/-!
DEFINITION. The Management Port (R184 to R186): what a write to each word of the register window does, and what
a read of each word returns (11.5).
-/

namespace Sys2Proof.Machine

/-! ## Writes -/

/-- ARRAY_CFG takes a write in UNINIT with no remap entry and no valid region (R1). -/
def State.sizeOpen (s : State) : Bool :=
  decide (s.ctl.state = .uninit) && s.lrt.slots.all (fun e => e.isNone) &&
  s.regions.entries.all (fun r => r.isNone)

/-- A write to ARRAY_CFG (R1). -/
def State.writeArrayCfg (s : State) (v : Word32) : State :=
  if s.sizeOpen then
    match ArraySize.ofCode (v.extractLsb' 0 3).toNat with
    | some z => s.setAif { s.aif with size := z }
    | none => s
  else s

/-- A write to POLICY (R84). -/
def State.writePolicy (s : State) (v : Word32) : State :=
  s.setPolicy { writebackOnCorrect := v.getLsbD 0, retireOnUe := v.getLsbD 1, haltOnUe := v.getLsbD 2,
                poisonOnUe := v.getLsbD 3 }

/-- A write to SUSPECT_CFG (R97). -/
def State.writeSuspectCfg (s : State) (v : Word32) : State :=
  if 1 ≤ (v.extractLsb' 0 8).toNat ∧ (v.extractLsb' 0 8).toNat ≤ 15 then
    s.setThreshold (v.extractLsb' 0 8).toNat
  else s

/-- A write to SPARE_CFG (R29). -/
def State.writeSpareCfg (s : State) (v : Word32) : State :=
  if (v.extractLsb' 0 8).toNat ≤ 127 then
    s.setPool { s.pool with lowLevel := (v.extractLsb' 0 8).toNat }
  else s

/-- The class a bit names (11.5, REGION_STAGE_C). -/
def classOfBit (b : Bool) : CheckClass := if b then .unchecked else .checked

/-- A write to REGION_STAGE_A, B or C (R142). -/
def State.writeStage (s : State) (g : Region) : State := s.setRegions { s.regions with stage := g }

/-- The staging fields after a write to REGION_STAGE_C (11.5). -/
def Region.withFlags (g : Region) (v : Word32) : Region :=
  { g with
    cls := classOfBit (v.getLsbD 0), writeProtect := v.getLsbD 1, patrol := v.getLsbD 2,
    readMask := v.extractLsb' 8 4, writeMask := v.extractLsb' 12 4 }

/-- A write to REC_POP removes the head record (R132). -/
def State.popRecord (s : State) : State :=
  s.setErq { s.erq with records := s.erq.records.tail }

/-- A write to IRQ_CAUSE (R137). -/
def State.writeCause (s : State) (v : Word32) : State :=
  s.setIrq { s.irq with latched := s.irq.latched.clearBy v }

/-- A write to IRQ_ENABLE (R138). -/
def State.writeEnable (s : State) (v : Word32) : State :=
  s.setIrq { s.irq with enableRecord := v.getLsbD 0, enable := .ofWord v }

/-- A write to CMD_STATUS (R191). -/
def State.writeStatus (s : State) (v : Word32) : State :=
  if v.getLsbD 1 then s.setCmd { s.cmd with refused := false } else s

/-- A full write to a word of the window (R184, R185); a write to a read-only word is ignored. -/
def State.writeReg (s : State) (r : Reg) (v : Word32) : State :=
  match r with
  | .arrayCfg => s.writeArrayCfg v
  | .policy => s.writePolicy v
  | .suspectCfg => s.writeSuspectCfg v
  | .patrolCfg => s.writePatrolCfg v
  | .spareCfg => s.writeSpareCfg v
  | .cmdCode => s.writeCode v
  | .cmdArg0 => s.setCmd { s.cmd with arg0 := v }
  | .cmdArg1 => s.setCmd { s.cmd with arg1 := v }
  | .cmdArg2 => s.setCmd { s.cmd with arg2 := v }
  | .cmdStatus => s.writeStatus v
  | .stageA => s.writeStage { s.regions.stage with base := (v.extractLsb' 0 24).toNat }
  | .stageB => s.writeStage { s.regions.stage with limit := (v.extractLsb' 0 24).toNat }
  | .stageC => s.writeStage (s.regions.stage.withFlags v)
  | .recPop => s.popRecord
  | .irqCause => s.writeCause v
  | .irqEnable => s.writeEnable v
  | .counter c => s.setCounters (s.counters.set c 0)
  | .id => s
  | .state => s
  | .initProgress => s
  | .patrolCursor => s
  | .spareCounts => s
  | .lrtGen => s
  | .recHead _ => s
  | .recLevel => s
  | .regionView _ _ => s
  | .portStatus _ => s
  | .suspectView _ _ => s
  | .rtqView _ => s
  | .lrtView _ _ => s
  | .spareView _ => s

/-- A write access to a word (R184, R198): ignored while a reset input is asserted and unless all four byte
enables are. -/
def State.busWrite (s : State) (r : Reg) (be : Enables) (v : Word32) : State :=
  if s.inReset ∨ be ≠ 15 then s else s.writeReg r v

/-- A write access at an offset; an offset that the map does not name ignores it (R184). -/
def State.windowWrite (s : State) (offset : BitVec 12) (be : Enables) (v : Word32) : State :=
  match regAt offset with
  | none => s
  | some r => s.busWrite r be v

/-! ## Reads -/

/-- A number in a field that starts at bit `lo`. -/
def field (n : Nat) (lo : Nat) : Word32 := BitVec.ofNat 32 n <<< lo

/-- A flag in bit `at_`. -/
def flag (b : Bool) (at_ : Nat) : Word32 := field b.toNat at_

/-- The encoding of the controller state (11.5). -/
def CtlState.code : CtlState → Nat
  | .uninit => 0 | .initializing => 1 | .stopped => 2 | .running => 3 | .draining => 4 | .halted => 5

/-- The encoding of HALT_REASON (11.5). -/
def HaltReason.code : HaltReason → Nat
  | .none => 0 | .ueOnDemand => 1

/-- The encoding of PATROL_MODE (11.5). -/
def PatrolMode.code : PatrolMode → Nat
  | .off => 0 | .single => 1 | .continuous => 2

/-- The encoding of a result (11.5). -/
def CmdResult.code : CmdResult → Nat
  | .none => 0 | .done => 1 | .wrongState => 2 | .badArgument => 3 | .overlap => 4 | .failed => 5
  | .noSpare => 6 | .aborted => 7 | .queueFull => 8 | .alreadyPending => 9 | .notRemapped => 10
  | .remapped => 11 | .spareNotFree => 12 | .unknown => 13

/-- The encoding of a record kind (11.5). -/
def RecordKind.code : RecordKind → Nat
  | .corrected => 1 | .accessDenied => 2 | .sweepDone => 3 | .uncorrectable => 4 | .poisonHit => 5
  | .retired => 6 | .released => 7 | .retireFailed => 8 | .releaseFailed => 9 | .spareBad => 10
  | .spareExhausted => 11 | .halted => 12

/-- The encoding of a record source (11.5). -/
def RecordSource.code : RecordSource → Nat
  | .port p => p.index
  | .patrol => 4 | .scrub => 5 | .copy => 6 | .command => 7 | .controller => 8

/-- The encoding of a record's detail (11.5). -/
def Detail.code : Detail → Nat
  | .denied .unmapped => 1
  | .denied .port => 2
  | .denied .writeProtect => 3
  | .poisonedFlag b => b.toNat
  | .sweepNumber n => n.toNat

/-- The encoding of a status in a response (11.6). -/
def RespStatus.code : RespStatus → Nat
  | .ok => 0 | .corrected => 1 | .dataError => 2 | .poisoned => 3 | .denied => 4 | .unmapped => 5
  | .notReady => 6 | .halted => 7 | .tagBusy => 8

/-- The spare number of a place, zero for HOME (11.5). -/
def Loc.spareNumber : Loc → Nat
  | .home => 0
  | .spare n => n

/-- The place kind of a place: 0 HOME, 1 SPARE (11.5). -/
def Loc.kindBit : Loc → Bool
  | .home => false
  | .spare _ => true

/-- The four words of a record (11.5, R131). -/
def Record.word (r : Record) : Nat → Word32
  | 0 =>
    field r.seq.toNat 0 ||| field r.kind.code 16 ||| field r.source.code 20 |||
    flag r.line.isSome 24 ||| flag r.place.isSome 25 ||| flag r.spare.isSome 26 |||
    flag r.mask.isSome 27 ||| flag r.repeats.isSome 28 ||| flag r.detail.isSome 29
  | 1 => field (r.line.getD 0) 0
  | 2 =>
    field (r.mask.getD 0).toNat 0 ||| field (r.repeats.getD 0) 8 |||
    field (r.place.getD .home).spareNumber 16 ||| flag (r.place.getD .home).kindBit 23 |||
    field (r.spare.getD 0) 24
  | 3 =>
    match r.detail with
    | some d => field d.code 0
    | none => 0
  | _ => 0

/-- REGION_STAGE_C and word 3 of a region's view (11.5). -/
def Region.flagsWord (g : Region) : Word32 :=
  flag (decide (g.cls = .unchecked)) 0 ||| flag g.writeProtect 1 ||| flag g.patrol 2 |||
  field g.readMask.toNat 8 ||| field g.writeMask.toNat 12

/-- The four words of a valid region (11.5, R145). -/
def Region.word (g : Region) : Nat → Word32
  | 0 => 1
  | 1 => field g.base 0
  | 2 => field g.limit 0
  | 3 => g.flagsWord
  | _ => 0

/-- The two words of a suspect entry (11.5, R89). -/
def Suspect.word (e : Suspect) : Nat → Word32
  | 0 => field e.line 0 ||| flag e.waiting 30 ||| flag true 31
  | 1 =>
    field e.count 0 ||| field e.mask.toNat 8 ||| field e.place.spareNumber 16 |||
    flag e.place.kindBit 23
  | _ => 0

/-- The encoding of an item's origin (11.5). -/
def ItemOrigin.code : ItemOrigin → Nat
  | .suspect => 0 | .uePolicy => 1 | .command => 2

/-- The word of a queued item (11.5, R100). -/
def RetireItem.word (i : RetireItem) : Word32 :=
  field i.line 0 ||| field i.origin.code 24 ||| flag (decide (i.action = .release)) 29 |||
  flag i.command 30 ||| flag true 31

/-- The encoding of an entry's origin (11.5). -/
def RemapOrigin.code : RemapOrigin → Nat
  | .suspect => 0 | .uePolicy => 1 | .command => 2 | .restore => 3

/-- The encoding of an entry's state (11.5). -/
def RemapState.code : RemapState → Nat
  | .active _ _ => 0 | .copying _ => 1 | .moving _ _ _ => 2 | .releasing _ _ => 3

/-- The current spare, where present (R17). -/
def RemapState.current? : RemapState → Option Nat
  | .active c _ => some c
  | .copying _ => none
  | .moving c _ _ => some c
  | .releasing c _ => some c

/-- The moves field, where present (R17). -/
def RemapState.moves? : RemapState → Option Nat
  | .active _ m => some m
  | .copying _ => none
  | .moving _ _ m => some m
  | .releasing _ m => some m

/-- The two words of a remap entry (11.5, R24). -/
def RemapEntry.word (e : RemapEntry) : Nat → Word32
  | 0 => field e.line 0 ||| field e.state.code 24 ||| flag true 31
  | 1 =>
    field (e.state.current?.getD 0) 0 ||| flag e.state.current?.isSome 7 |||
    field (e.state.target?.getD 0) 8 ||| flag e.state.target?.isSome 15 |||
    field (e.state.moves?.getD 0) 16 ||| field e.origin.code 24
  | _ => 0

/-- The encoding of a spare's state (11.5). -/
def SpareState.code : SpareState → Nat
  | .free => 0 | .held => 1 | .bad => 2

/-- IRQ_CAUSE and IRQ_ENABLE (11.5). -/
def causeWord (record : Bool) (l : Latches) : Word32 :=
  flag record 0 ||| flag l.major 1 ||| flag l.lost 2 ||| flag l.cmdDone 3 ||| flag l.halted 4 |||
  flag l.sparesLow 5 ||| flag l.sweep 6

/-- What a word shows of a collection's position: zero where it holds nothing (R186). -/
def viewOf {α : Type} (x : Option α) (w : α → Word32) : Word32 :=
  match x with
  | some a => w a
  | none => 0

/-- The value of a word of the window as the state stands (R184 to R186, 11.5). -/
def State.viewReg (s : State) (r : Reg) : Word32 :=
  match r with
  | .id => 0x00058001
  | .state => field s.ctl.state.code 0 ||| field s.ctl.haltReason.code 8
  | .initProgress => field s.ctl.initProgress 0
  | .arrayCfg => field s.aif.size.code 0
  | .policy =>
    flag s.policy.writebackOnCorrect 0 ||| flag s.policy.retireOnUe 1 ||| flag s.policy.haltOnUe 2 |||
    flag s.policy.poisonOnUe 3
  | .suspectCfg => field s.suspects.threshold 0
  | .patrolCfg => field s.patrol.mode.code 0 ||| field s.patrol.interval 16
  | .patrolCursor => field s.patrol.cursor 0
  | .spareCfg => field s.pool.lowLevel 0
  | .spareCounts =>
    field (s.pool.count .free) 0 ||| field (s.pool.count .held) 8 ||| field (s.pool.count .bad) 16
  | .lrtGen => field s.lrt.gen.toNat 0
  | .cmdCode => 0
  | .cmdArg0 => s.cmd.arg0
  | .cmdArg1 => s.cmd.arg1
  | .cmdArg2 => s.cmd.arg2
  | .cmdStatus => flag s.busy 0 ||| flag s.cmd.refused 1 ||| field s.cmd.result.code 8
  | .stageA => field s.regions.stage.base 0
  | .stageB => field s.regions.stage.limit 0
  | .stageC => s.regions.stage.flagsWord
  | .recHead i => viewOf s.erq.records.head? (fun r => r.word i)
  | .recPop => 0
  | .recLevel => field s.erq.records.length 0
  | .irqCause => causeWord s.recordCause s.irq.latched
  | .irqEnable => causeWord s.irq.enableRecord s.irq.enable
  | .counter c => s.counters.get c
  | .regionView k w => viewOf (s.regions.entries.getD k none) (fun g => g.word w)
  | .portStatus p =>
    field (s.ports.get p).queue.length 0 ||| field (s.ports.get p).tags.length 8
  | .suspectView p w => viewOf s.suspects.entries[p]? (fun e => e.word w)
  | .rtqView p => viewOf s.rtq[p]? RetireItem.word
  | .lrtView k w => viewOf (s.lrt.slots.getD k none) (fun e => e.word w)
  | .spareView n => viewOf s.pool.spares[n]? (fun x => field x.code 0)

/-- A read of the window at an offset (R184, R198): zero at an offset the map does not name and while a reset
input is asserted; steps that are due have been performed (log entry 23). A read changes no state. -/
def State.readWindow (s : State) (offset : BitVec 12) : Word32 :=
  if s.inReset then 0
  else
    match regAt offset with
    | none => 0
    | some r => s.settle.viewReg r

/-- The level of the IRQ_N pin (R138, R139), steps that are due having been performed (log entry 23). -/
def State.irqPin (s : State) : Bool := s.settle.irqN

/-- A port's ready indication (R153), steps that are due having been performed (log entry 23). -/
def State.readyPin (s : State) (p : PortId) : Bool := s.settle.ready p

end Sys2Proof.Machine
end

