-- ==== Sys2Proof/Machine/WindowRows.lean ====
section
/-!
DEFINITION. The rows that are writes to the register window: the twelve maintenance commands and the two other
outcomes of a CMD_CODE write (R189, R190; log entry 13), and the register writes (R184, R185; log entry 25).
-/

namespace Sys2Proof.Machine

/-- A full write of a code to CMD_CODE. -/
def State.commandWrite (s : State) (code : Word32) : State := s.opened.busWrite .cmdCode 15 code

/-- INIT (R171). -/
def execInit (s : State) : Result := .next (s.commandWrite 1)

/-- START (R175). -/
def execStart (s : State) : Result := .next (s.commandWrite 2)

/-- STOP (R176, R178). -/
def execStop (s : State) : Result := .next (s.commandWrite 3)

/-- SET_REGION (R143). -/
def execSetRegion (s : State) : Result := .next (s.commandWrite 4)

/-- CLEAR_REGION (R144). -/
def execClearRegion (s : State) : Result := .next (s.commandWrite 5)

/-- RETIRE (R194). -/
def execRetire (s : State) : Result := .next (s.commandWrite 6)

/-- RELEASE (R195). -/
def execRelease (s : State) : Result := .next (s.commandWrite 7)

/-- LOAD_REMAP (R36). -/
def execLoadRemap (s : State) : Result := .next (s.commandWrite 8)

/-- MARK_SPARE_BAD (R37). -/
def execMarkSpareBad (s : State) : Result := .next (s.commandWrite 9)

/-- SCRUB (R116). -/
def execScrub (s : State) : Result := .next (s.commandWrite 10)

/-- INJECT (R196). -/
def execInject (s : State) : Result := .next (s.commandWrite 11)

/-- CLEAR_SUSPECTS (R99). -/
def execClearSuspects (s : State) : Result := .next (s.commandWrite 12)

/-- UNKNOWN_COMMAND (R189): a value that is no code, while the slot is idle. -/
def execUnknownCommand (code : Word32) (s : State) : Result := .next (s.commandWrite code)

/-- COMMAND_REFUSED (R190): any value, while the slot is busy. -/
def execCommandRefused (code : Word32) (s : State) : Result := .next (s.commandWrite code)

/-- ARRAY_CFG_WRITE (R1). -/
def execArrayCfgWrite (be : Enables) (v : Word32) (s : State) : Result :=
  .next (s.opened.busWrite .arrayCfg be v)

/-- SUSPECT_CFG_WRITE (R97). -/
def execSuspectCfgWrite (be : Enables) (v : Word32) (s : State) : Result :=
  .next (s.opened.busWrite .suspectCfg be v)

/-- PATROL_CFG_WRITE (R115). -/
def execPatrolCfgWrite (be : Enables) (v : Word32) (s : State) : Result :=
  .next (s.opened.busWrite .patrolCfg be v)

/-- IRQ_CAUSE_WRITE (R137). -/
def execIrqCauseWrite (be : Enables) (v : Word32) (s : State) : Result :=
  .next (s.opened.busWrite .irqCause be v)

/-- IRQ_ENABLE_WRITE (R138). -/
def execIrqEnableWrite (be : Enables) (v : Word32) (s : State) : Result :=
  .next (s.opened.busWrite .irqEnable be v)

/-- CMD_STATUS_WRITE (R191). -/
def execCmdStatusWrite (be : Enables) (v : Word32) (s : State) : Result :=
  .next (s.opened.busWrite .cmdStatus be v)

/-- REC_POP (R132). -/
def execRecPop (be : Enables) (v : Word32) (s : State) : Result :=
  .next (s.opened.busWrite .recPop be v)

/-- COUNTER_CLEAR (R197). -/
def execCounterClear (c : Counter) (be : Enables) (v : Word32) (s : State) : Result :=
  .next (s.opened.busWrite (.counter c) be v)

/-- REGISTER_WRITE (R185). -/
def execRegisterWrite (offset : BitVec 12) (be : Enables) (v : Word32) (s : State) : Result :=
  .next (s.opened.windowWrite offset be v)

end Sys2Proof.Machine
end

