-- ==== Sys2Proof/Machine/Dispatch.lean ====
section
/-!
DEFINITION. The dispatch: one arm per command, each a direct call of its meaning. No arm is refused.
-/

namespace Sys2Proof.Machine

/-- The effect of a command on everything but the queue. -/
def exec (i : Instr) (s : State) : Host.Outcome State Fault Refusal :=
  match i with
  | .powerOnReset => Sys2Proof.Machine.execPowerOnReset s
  | .warmReset => Sys2Proof.Machine.execWarmReset s
  | .resetRelease pin => Sys2Proof.Machine.execResetRelease pin s
  | .requestAccept port req => Sys2Proof.Machine.execRequestAccept port req s
  | .grantPortHead => Sys2Proof.Machine.execGrantPortHead s
  | .grantCopyRead => Sys2Proof.Machine.execGrantCopyRead s
  | .grantPatrol => Sys2Proof.Machine.execGrantPatrol s
  | .entryIssue slot => Sys2Proof.Machine.execEntryIssue slot s
  | .demandReadComplete slot => Sys2Proof.Machine.execDemandReadComplete slot s
  | .partialWriteReadComplete slot => Sys2Proof.Machine.execPartialWriteReadComplete slot s
  | .demandWriteComplete slot => Sys2Proof.Machine.execDemandWriteComplete slot s
  | .rmwPoisonWriteComplete slot => Sys2Proof.Machine.execRmwPoisonWriteComplete slot s
  | .sourceWriteComplete slot => Sys2Proof.Machine.execSourceWriteComplete slot s
  | .writebackComplete slot => Sys2Proof.Machine.execWritebackComplete slot s
  | .patrolReadComplete slot => Sys2Proof.Machine.execPatrolReadComplete slot s
  | .scrubWriteComplete slot => Sys2Proof.Machine.execScrubWriteComplete slot s
  | .copyReadComplete slot waiterFirst => Sys2Proof.Machine.execCopyReadComplete slot waiterFirst s
  | .targetWriteComplete => Sys2Proof.Machine.execTargetWriteComplete s
  | .verifyComplete => Sys2Proof.Machine.execVerifyComplete s
  | .lateCompletion op => Sys2Proof.Machine.execLateCompletion op s
  | .itemStart => Sys2Proof.Machine.execItemStart s
  | .patrolTimerExpiry => Sys2Proof.Machine.execPatrolTimerExpiry s
  | .fillWriteIssue => Sys2Proof.Machine.execFillWriteIssue s
  | .fillWriteComplete line => Sys2Proof.Machine.execFillWriteComplete line s
  | .initFillEnd => Sys2Proof.Machine.execInitFillEnd s
  | .drainComplete => Sys2Proof.Machine.execDrainComplete s
  | .haltedStopComplete => Sys2Proof.Machine.execHaltedStopComplete s
  | .init => Sys2Proof.Machine.execInit s
  | .start => Sys2Proof.Machine.execStart s
  | .stop => Sys2Proof.Machine.execStop s
  | .setRegion => Sys2Proof.Machine.execSetRegion s
  | .clearRegion => Sys2Proof.Machine.execClearRegion s
  | .retire => Sys2Proof.Machine.execRetire s
  | .release => Sys2Proof.Machine.execRelease s
  | .loadRemap => Sys2Proof.Machine.execLoadRemap s
  | .markSpareBad => Sys2Proof.Machine.execMarkSpareBad s
  | .scrub => Sys2Proof.Machine.execScrub s
  | .inject => Sys2Proof.Machine.execInject s
  | .clearSuspects => Sys2Proof.Machine.execClearSuspects s
  | .unknownCommand code => Sys2Proof.Machine.execUnknownCommand code s
  | .commandRefused code => Sys2Proof.Machine.execCommandRefused code s
  | .arrayCfgWrite be value => Sys2Proof.Machine.execArrayCfgWrite be value s
  | .suspectCfgWrite be value => Sys2Proof.Machine.execSuspectCfgWrite be value s
  | .patrolCfgWrite be value => Sys2Proof.Machine.execPatrolCfgWrite be value s
  | .irqCauseWrite be value => Sys2Proof.Machine.execIrqCauseWrite be value s
  | .irqEnableWrite be value => Sys2Proof.Machine.execIrqEnableWrite be value s
  | .cmdStatusWrite be value => Sys2Proof.Machine.execCmdStatusWrite be value s
  | .recPop be value => Sys2Proof.Machine.execRecPop be value s
  | .counterClear counter be value => Sys2Proof.Machine.execCounterClear counter be value s
  | .registerWrite offset be value => Sys2Proof.Machine.execRegisterWrite offset be value s
  | .arrayCellFault phys word bits => Sys2Proof.Machine.execArrayCellFault phys word bits s

end Sys2Proof.Machine
end

