-- ==== Sys2Proof/Safety.lean ====
section
/-!
DEFINITION. The invariants of the 128L that the spec states of its collections, as decidable properties of a
state, and the relations between the states before and after a command that the obligations use.
-/

namespace Sys2Proof.Machine

/-! ## Before and after -/

/-- An entry that waited on slot k waits on nothing any more (R67); every other entry is as it was. -/
def OpenEntry.afterLeaving (k : Nat) (e : OpenEntry) : OpenEntry :=
  if e.state = .blocked (.entry k) then { e with state := .blocked .turn } else e

/-- Between u and t the entry of slot k has left the Open-Line Table: the slot is empty, its waiter's turn has come,
and the other entries and their order are as they were (R64, R67). -/
def State.entryLeft (u t : State) (k : Nat) : Prop :=
  t.entryAt k = none ∧
  (∀ j, j ≠ k → t.entryAt j = (u.entryAt j).map (OpenEntry.afterLeaving k)) ∧
  t.olt.order = u.olt.order.filter (fun j => j ≠ k)

/-- Between u and t the operation has completed and `more` have been issued: it has left the head of its physical
line's list, and a write is stored (R9 to R11); nothing else of the Array Interface has changed. -/
def State.opDone (u t : State) (op : ArrayOp) (more : List ArrayOp) (inj : Option Injection) : Prop :=
  t.aif = { size := u.aif.size, injection := inj, mem := u.aif.mem.apply op,
            ops := u.aif.ops.eraseP (fun o => o.phys == op.phys) ++ more } ∧
  t.freeReads = u.freeReads + 1

/-- The ports with a tag of one of them released (R156). -/
def Ports.released (ps : Ports) (p : PortId) (t : Tag) : Ports :=
  ps.set p { queue := (ps.get p).queue, tags := (ps.get p).tags.filter (fun u => u ≠ t) }

/-- The ports with the head of one queue taken off (R158). -/
def Ports.headTaken (ps : Ports) (p : PortId) : Ports :=
  ps.set p { queue := (ps.get p).queue.tail, tags := (ps.get p).tags }

/-- The stored line that a write of data issues for a line (R5, R15): the armed injection, if it is for the line,
inverts data bit 0, or data bits 0 and 1, of its word. -/
def State.stores (u : State) (line : Nat) (d : LineData) : StoredLine :=
  match u.aif.injection with
  | some i =>
    if i.line = line then
      { written := .data d, errs := (if i.bits = 1 then 1#576 else 3#576) <<< (72 * i.word) }
    else { written := .data d, errs := 0 }
  | none => { written := .data d, errs := 0 }

/-- The armed injection after a write for a line has issued (R15). -/
def State.injectionLeft (u : State) (line : Nat) : Option Injection :=
  match u.aif.injection with
  | some i => if i.line = line then none else some i
  | none => none

/-- The issued write of data to a location (R9). -/
def State.writeOp (u : State) (l : Loc) (line : Nat) (d : LineData) (by_ : Issuer) : ArrayOp :=
  { kind := .writeLine (u.stores line d), phys := physOf u.aif.size line l, line := line, issuer := by_ }

/-- The issued read of a location (R9). -/
def State.readOp (u : State) (l : Loc) (line : Nat) (decoded : Bool) (by_ : Issuer) : ArrayOp :=
  { kind := .readLine decoded, phys := physOf u.aif.size line l, line := line, issuer := by_ }

/-- The issued poison write of a location (R9). -/
def State.poisonOp (u : State) (l : Loc) (line : Nat) (by_ : Issuer) : ArrayOp :=
  { kind := .writePoison, phys := physOf u.aif.size line l, line := line, issuer := by_ }

/-- The causes with one latched (R136). -/
def Interrupts.with (q : Interrupts) (c : Cause) : Interrupts := { q with latched := q.latched.latch c }

/-- A command has completed with a result (R192). -/
def State.done (u : State) (r : CmdResult) : State :=
  { u with cmd := { u.cmd with running := none, result := r }, irq := u.irq.with .cmdDone }

/-- A command has been taken and holds the slot with the argument values it took (R187, R189). -/
def State.held (u : State) (c : Command) : State :=
  { u with cmd := { u.cmd with
      running := some { command := c, arg0 := u.cmd.arg0, arg1 := u.cmd.arg1, arg2 := u.cmd.arg2 } } }

/-- Software can write the window, and the slot is free to take a command (R189, R198). -/
def State.slotFree (u : State) : Prop :=
  u.pins.porst = false ∧ u.pins.wrst = false ∧ u.cmd.running = none

/-! ## Sizes -/

/-- A port's queue holds at most eight requests (R154). -/
abbrev Port.fits (p : Port) : Prop := p.queue.length ≤ 8

/-- Every collection has its size: eight Open-Line Table slots (R64), 128 remap slots (R18) and spares (R25),
eight regions (R140), at most 8 queued items (R100), 16 suspects (R90), 32 records (R125) and 8 requests per
port (R154). -/
abbrev State.fits (s : State) : Prop :=
  s.olt.slots.length = 8 ∧ s.lrt.slots.length = 128 ∧ s.pool.spares.length = 128 ∧
  s.regions.entries.length = 8 ∧ s.rtq.length ≤ 8 ∧ s.suspects.entries.length ≤ 16 ∧
  s.erq.records.length ≤ 32 ∧ s.ports.p0.fits ∧ s.ports.p1.fits ∧ s.ports.p2.fits ∧ s.ports.p3.fits

/-! ## Regions (R141) -/

/-- The valid entries of the Region Table. -/
def RegionTable.valid (t : RegionTable) : List Region := t.entries.filterMap id

/-- No line lies in both regions. -/
abbrev Region.apart (a b : Region) : Prop := a.limit < b.base ∨ b.limit < a.base

/-- Regions never overlap, and each lies wholly below LOGICAL_LINES (R141). -/
abbrev State.regionsApart (s : State) : Prop :=
  s.regions.valid.Pairwise Region.apart ∧
  ∀ r ∈ s.regions.valid, r.base ≤ r.limit ∧ r.limit < s.aif.size.logical

/-! ## Suspects (R90) -/

/-- No two entries for one line; every count lies between 1 and the threshold, and equals it exactly for a
waiting entry (R90, R92). -/
abbrev State.suspectsBounded (s : State) : Prop :=
  1 ≤ s.suspects.threshold ∧ s.suspects.threshold ≤ 15 ∧
  (s.suspects.entries.map (fun e => e.line)).Nodup ∧
  ∀ e ∈ s.suspects.entries,
    1 ≤ e.count ∧ e.count ≤ s.suspects.threshold ∧ (e.waiting = true ↔ e.count = s.suspects.threshold)

/-! ## The remap table, the spares and the Copy Unit (R19, R20, R25) -/

/-- The entries of the remap table, in slot order. -/
def RemapTable.entries (t : RemapTable) : List RemapEntry := t.slots.filterMap id

/-- The spares an entry names (R19). -/
def RemapState.refs : RemapState → List Nat
  | .active c _ => [c]
  | .copying t => [t]
  | .moving c t _ => [c, t]
  | .releasing c _ => [c]

/-- All spare references of the table. -/
def RemapTable.refs (t : RemapTable) : List Nat := t.entries.flatMap (fun e => e.state.refs)

/-- The numbers of the HELD spares. -/
def SparePool.heldNumbers (p : SparePool) : List Nat :=
  (List.range p.spares.length).filter (fun n => p.get n == .held)

/-- No two entries for one line, and every HELD spare is named by exactly one reference and no other spare by
any (R19, R25). -/
abbrev State.sparesAccounted (s : State) : Prop :=
  s.lrt.slots.length = 128 ∧ s.pool.spares.length = 128 ∧
  (s.lrt.entries.map (fun e => e.line)).Nodup ∧ s.lrt.refs.Perm s.pool.heldNumbers

/-- An entry is in a copying state exactly while the Copy Unit is not IDLE, and it is the entry of the current
item's line (R20); the copy buffer is valid only then. -/
def State.copyLinked (s : State) : Bool :=
  match s.copy.item with
  | none =>
    decide (s.copy.state = .idle) && !s.copy.buffer.valid && s.lrt.entries.all (fun e => !e.state.copying?)
  | some i =>
    decide (s.copy.state ≠ .idle) && s.lineCopying i.line &&
    s.lrt.entries.all (fun e => !e.state.copying? || e.line == i.line)

/-- R19, R20 and R25 together. -/
abbrev State.remapSound (s : State) : Prop := s.sparesAccounted ∧ s.copyLinked = true

/-! ## Tags (R154, R156) -/

/-- The tag of a demand entry of a port that has not been answered: a demand entry in WRITEBACK has been (R71). -/
def OpenEntry.owes (p : PortId) (e : OpenEntry) : Option Tag :=
  match e.work with
  | .demandRead q t => if q = p ∧ e.state ≠ .writeback then some t else none
  | .demandWrite q t _ _ => if q = p ∧ e.state ≠ .writeback then some t else none
  | .patrol => none
  | .copyRead _ => none

/-- The tags of a port's requests that are queued or granted and not answered. -/
def State.unanswered (s : State) (p : PortId) : List Tag :=
  (s.ports.get p).queue.map (fun r => r.tag) ++
  (s.olt.slots.filterMap id).filterMap (fun e => e.owes p)

/-- A port's outstanding tag set holds each tag once, and exactly the tags of the requests not yet answered
(R154, R156). -/
abbrev State.tagsHeld (s : State) : Prop :=
  ∀ p ∈ [PortId.p0, PortId.p1, PortId.p2, PortId.p3],
    (s.ports.get p).tags.Nodup ∧ (s.ports.get p).tags.Perm (s.unanswered p)

/-! ## The Open-Line Table (R64 to R67) -/

/-- The slots of a line's entries, oldest first. -/
def State.chain (s : State) (line : Nat) : List Nat := s.olt.order.filter (s.slotOfLine line)

/-- What the entry of slot k waits on, if it waits on an older entry. -/
def State.waitsFor (s : State) (k : Nat) : Option Nat :=
  match s.entryAt k with
  | some e =>
    match e.state with
    | .blocked (.entry m) => some m
    | .blocked .copyHold => none
    | .blocked .turn => none
    | .reading => none
    | .writing => none
    | .writeback => none
  | none => none

/-- Each entry of a chain waits on the one before it, and the oldest on none. -/
def chainLinked (w : Nat → Option Nat) : Option Nat → List Nat → Bool
  | _, [] => true
  | before, k :: ks => decide (w k = before) && chainLinked w (some k) ks

/-- An entry with an array operation outstanding: in READING, WRITING or WRITEBACK (R65). -/
def OpenEntry.atArray (e : OpenEntry) : Bool :=
  match e.state with
  | .blocked _ => false
  | .reading => true
  | .writing => true
  | .writeback => true

/-- How many operations are outstanding for the entry of slot k. -/
def State.opsOf (s : State) (k : Nat) : Nat := s.aif.ops.countP (fun o => decide (o.issuer = .engine k))

/-- How many operations the entry of slot k has outstanding by its state (R65). -/
def State.opsDue (s : State) (k : Nat) : Nat :=
  match s.entryAt k with
  | some e => e.atArray.toNat
  | none => 0

/-- The Open-Line Table is sound: eight slots, the order lists each entry's slot once, the entries of a line wait
in grant order behind the oldest (R66, R67), and an entry has exactly one operation outstanding in READING,
WRITING and WRITEBACK and none in BLOCKED (R65). -/
abbrev State.openSound (s : State) : Prop :=
  s.olt.slots.length = 8 ∧ s.olt.order.Nodup ∧
  (∀ k ∈ s.olt.order, (s.entryAt k).isSome = true) ∧
  (∀ k < 8, (s.entryAt k).isSome = true → k ∈ s.olt.order) ∧
  (∀ k ∈ s.olt.order, ∀ e ∈ s.entryAt k, chainLinked s.waitsFor none (s.chain e.line) = true) ∧
  ∀ k < 8, s.opsOf k = s.opsDue k

/-! ## The command slot (R187, R189, R193) -/

/-- How many items carry the command flag, in the Retirement Queue and in the Copy Unit (R100, R102). -/
def State.commandItems (s : State) : Nat :=
  s.rtq.countP (fun i => i.command) +
  match s.copy.item with
  | some i => i.command.toNat
  | none => 0

/-- The slot is busy only with the four kinds of command that hold it (R189), each with its work in progress: an
INIT fills, a STOP drains or waits in HALTED, a SCRUB has its range and a RETIRE or RELEASE its one item. -/
def State.slotSound (s : State) : Bool :=
  match s.cmd.running with
  | none =>
    decide (s.ctl.state ≠ .initializing ∧ s.ctl.state ≠ .draining ∧ s.commandItems = 0) &&
    s.patrol.scrub.isNone
  | some r =>
    match r.command with
    | .init => decide (s.ctl.state = .initializing ∧ s.commandItems = 0) && s.patrol.scrub.isNone
    | .stop =>
      decide ((s.ctl.state = .draining ∨ s.ctl.state = .halted) ∧ s.commandItems = 0) &&
      s.patrol.scrub.isNone
    | .scrub => decide (s.ctl.state = .running ∧ s.commandItems = 0) && s.patrol.scrub.isSome
    | .retire => decide (s.ctl.state = .running ∧ s.commandItems = 1) && s.patrol.scrub.isNone
    | .release => decide (s.ctl.state = .running ∧ s.commandItems = 1) && s.patrol.scrub.isNone
    | .start => false
    | .setRegion => false
    | .clearRegion => false
    | .loadRemap => false
    | .markSpareBad => false
    | .inject => false
    | .clearSuspects => false

/-! ## The Patrol Unit (R105) -/

/-- The PATROL entries of the Open-Line Table. -/
def State.patrolEntries (s : State) : Nat :=
  (s.olt.slots.filterMap id).countP (fun e => decide (e.work = .patrol))

/-- The fields of the Patrol Unit are present as R105 gives: a candidate line in ISSUING and IN_FLIGHT, a running
timer in WAITING, a scrub range and cursor while the activity is SCRUB; a PATROL entry exists exactly in IN_FLIGHT;
ISSUING needs the controller RUNNING (R110, R119); the patrol wait count is 0 outside ISSUING (R163). -/
def State.patrolSound (s : State) : Bool :=
  decide (s.patrol.candidate.isSome = true ↔ s.patrol.state = .issuing ∨ s.patrol.state = .inFlight) &&
  decide (s.patrol.timer.isSome = true ↔ s.patrol.state = .waiting) &&
  decide (s.patrol.scrub.isSome = true ↔ s.patrol.activity = .scrub) &&
  decide (s.patrol.activity = .scrub → s.patrol.state = .issuing ∨ s.patrol.state = .inFlight) &&
  decide (s.patrol.state = .issuing → s.ctl.state = .running) &&
  decide (s.patrol.mode = .off → s.patrol.activity = .background →
    s.patrol.state = .off ∨ s.patrol.state = .inFlight) &&
  decide (s.patrolEntries = (decide (s.patrol.state = .inFlight)).toNat) &&
  decide (1 ≤ s.patrol.interval ∧ s.patrol.interval ≤ 4095) &&
  decide (s.arbiter.patrolWait ≤ 16 ∧ (s.patrol.state ≠ .issuing → s.arbiter.patrolWait = 0))

/-- The remap table, the Copy Unit, the command slot and the Patrol Unit agree. -/
abbrev State.controlSound (s : State) : Prop :=
  s.remapSound ∧ s.slotSound = true ∧ s.patrolSound = true

end Sys2Proof.Machine
end

