-- ==== Sys2Proof/Certificates/Slice0/Obligations.lean ====
section
/-!
DEFINITION. The statements for the provers. Throughout, `u` is `s.opened`: the state with no response presented and
everything performed that the events before had made due (log entries 3 and 10), so each statement covers every state
s. Where a statement says `t = { u with … }`, every block not named is unchanged: that is its frame.
-/

section Statements
open Sys2Proof Sys2Proof.Machine

/-! ## Steps and resets -/

/-- A step is the command at the front of the queue, run on the rest of the queue. -/
def Obligations.StepRunsFrontCommand : Prop :=
  ∀ (s : State) (c : Instr) (rest : List Instr), s.pending = c :: rest →
    step s = exec c { s with pending := rest }

/-- On an empty queue a step performs what is due, after which nothing is due; where nothing is due it idles
(the model's choice, log entry 4). -/
def Obligations.EmptyQueueSettlesAndIdles : Prop :=
  (∀ s : State, s.pending = [] → step s = .next s.opened) ∧
  (∀ s : State, s.opened.settled = true) ∧
  (∀ s : State, s.settled = true → s.opened = { s with responses := [] })

/-- Every command answers a next state with the same queue, also a row whose conditions do not hold (the model's choice,
log entry 2), but for a cell fault at a cell that does not exist (the model's reading, log entry 9). -/
def Obligations.EveryCommandRunsAndKeepsTheQueue : Prop :=
  ∀ (c : Instr) (s : State),
    (∃ t, exec c s = .next t ∧ t.pending = s.pending) ∨
    (exec c s = .fault .noSuchCell ∧ ∃ phys word bits, c = .arrayCellFault phys word bits ∧
      (s.aif.size.lines ≤ phys ∨ 8 ≤ word))

/-- The values the spec gives each block at power-on reset (the reset inputs as after the release, log entry 14), and what
the words of the register window then read. -/
def Obligations.ResetValues : Prop :=
  State.reset.pins = { porst := false, wrst := false } ∧
  State.reset.aif.size = .s20 ∧ State.reset.aif.ops = [] ∧ State.reset.aif.injection = none ∧
  (∀ p, State.reset.aif.mem.get p = none) ∧
  State.reset.lrt = { slots := List.replicate 128 none, gen := 0 } ∧ (∀ line, State.reset.entryOf line = none) ∧
  State.reset.pool = { spares := List.replicate 128 .free, lowLevel := 8 } ∧
  State.reset.copy = {
    state := .idle, item := none, buffer := { data := 0, poison := false, valid := false }, dirty := false
    rewrites := none, hold := false, attempts := none, expected := none, itemNo := 0 } ∧
  State.reset.olt.slots = List.replicate 8 none ∧ (∀ k, State.reset.entryAt k = none) ∧
  State.reset.policy =
    { writebackOnCorrect := false, retireOnUe := false, haltOnUe := false, poisonOnUe := true } ∧
  State.reset.suspects = { entries := [], threshold := 4 } ∧ State.reset.rtq = [] ∧
  State.reset.patrol = {
    state := .off, activity := .background, mode := .off, interval := 100, timer := none, cursor := 0
    visited := false, sweep := 0, candidate := none, scrub := none } ∧
  State.reset.erq = { records := [], nextSeq := 0 } ∧
  (∀ c, State.reset.irq.latched.get c = false ∧ State.reset.irq.enable.get c = false) ∧
  State.reset.irq.enableRecord = false ∧ State.reset.irqPin = true ∧
  State.reset.regions = { entries := List.replicate 8 none, stage := {
    base := 0, limit := 0, cls := .checked, writeProtect := false, patrol := false, readMask := 0, writeMask := 0 } } ∧
  (∀ line, State.reset.regionOf line = none) ∧
  (∀ p, State.reset.ports.get p = { queue := [], tags := [] } ∧ State.reset.readyPin p = true) ∧
  State.reset.arbiter = { pointer := .p0, patrolWait := 0 } ∧
  State.reset.ctl = { state := .uninit, haltReason := .none, initProgress := 0 } ∧
  State.reset.cmd = { running := none, result := .none, refused := false, arg0 := 0, arg1 := 0, arg2 := 0 } ∧
  (∀ c, State.reset.counters.get c = 0) ∧
  let words : List (BitVec 12 × Word32) := [(0x000, 0x00058001), (0x014, 8), (0x018, 4), (0x01C, 0x00640000), (0x024, 8),
    (0x028, 0x80)]
  (∀ x ∈ words, State.reset.readWindow x.1 = x.2) ∧
  ∀ o : BitVec 12, o ∉ words.map (fun x => x.1) → State.reset.readWindow o = 0

/-- POWER_ON_RESET puts every block at its reset values with its input asserted, the responses that the event before it
formed having been presented (R157; log entry 10); RESET_RELEASE deasserts one input and changes nothing else. -/
def Obligations.PowerOnResetAndRelease : Prop :=
  (∀ s : State, exec .powerOnReset s = .next { State.reset with
    pins := { porst := true, wrst := s.pins.wrst }
    responses := s.opened.responses
    freeReads := s.freeReads
    pending := s.pending }) ∧
  (∀ s : State, exec (.resetRelease .porst) s =
    .next { s.opened with pins := { porst := false, wrst := s.pins.wrst } }) ∧
  ∀ s : State, exec (.resetRelease .wrst) s =
    .next { s.opened with pins := { porst := s.pins.porst, wrst := false } }

/-- WARM_RESET keeps the array size, the regions, the remap table and the spares as the quiet abort leaves them, and
INIT_PROGRESS unless it leads to UNINIT; every other block takes its reset values; the responses that the event before it
formed have been presented (R157; log entry 10). Every physical line then holds what the last write issued to it stores,
and a line without one what it held (R16). -/
def Obligations.WarmResetKeepsAndClears : Prop :=
  (∀ s : State, let u := s.opened
    exec .warmReset s = .next { State.reset with
      pins := { porst := u.pins.porst, wrst := true }
      aif := { size := u.aif.size, ops := [], injection := none, mem := applyAll u.aif.ops u.aif.mem }
      lrt := u.quietAbort.lrt
      pool := { spares := u.quietAbort.pool.spares, lowLevel := 8 }
      regions := u.regions
      ctl := if u.ctl.state = .uninit ∨ u.ctl.state = .initializing then
          { state := .uninit, haltReason := .none, initProgress := 0 }
        else { state := .stopped, haltReason := .none, initProgress := u.ctl.initProgress }
      responses := u.responses
      freeReads := u.freeReads
      pending := u.pending }) ∧
  ∀ (ops : List ArrayOp) (m : Memory) (phys : Nat),
    let reads : ArrayOp → Prop := fun op => ∃ decoded, op.kind = .readLine decoded
    ((∀ op ∈ ops, op.phys = phys → reads op) → (applyAll ops m).get phys = m.get phys) ∧
    ∀ a op b, ops = a ++ op :: b → op.phys = phys → (∀ o ∈ b, o.phys = phys → reads o) →
      (∀ l, op.kind = .writeLine l → (applyAll ops m).get phys = some l) ∧
      (op.kind = .writePoison → (applyAll ops m).get phys = some { written := .poison, errs := 0 })

/-- The quiet abort of a warm reset: the entry in a copying state returns to where it was, its target becomes FREE
and LRT_GEN increments; without such an entry nothing changes (R39). -/
def Obligations.QuietAbortRestoresTheEntry : Prop :=
  (∀ u : State, (∀ e ∈ u.lrt.entries, e.state.copying? = false) → u.quietAbort = u) ∧
  ∀ (u : State) (e : RemapEntry), (u.lrt.entries.map (fun x => x.line)).Nodup → e ∈ u.lrt.entries →
    (∀ x ∈ u.lrt.entries, x.state.copying? = true → x = e) →
    let v := u.quietAbort
    (∀ t, e.state = .copying t → v.entryOf e.line = none) ∧
    (∀ c t m, e.state = .moving c t m → v.entryOf e.line = some { e with state := .active c m }) ∧
    (∀ c m, e.state = .releasing c m → v.entryOf e.line = some { e with state := .active c m }) ∧
    (e.state.copying? = true →
      (∀ line, line ≠ e.line → v.entryOf line = u.entryOf line) ∧
      v = { u with
        lrt := { slots := v.lrt.slots, gen := u.lrt.gen + 1 }
        pool := match e.state.target? with
          | some t => { u.pool with spares := u.pool.spares.set t .free }
          | none => u.pool })

/-! ## Ports and grants -/

/-- A request presented on a port: not accepted without ready; otherwise answered TAG_BUSY, queued in RUNNING,
answered HALTED in HALTED and NOT_READY in every other state (R153, R155). -/
def Obligations.RequestAcceptance : Prop :=
  ∀ (s : State) (p : PortId) (r : Request), let u := s.opened
    let answer : RespStatus → Result := fun st => .next { u with responses := u.responses ++
      [{ port := p, tag := r.tag, status := st, data := noData r.kind, mask := 0 }] }
    exec (.requestAccept p r) s =
      if (u.ports.get p).queue.length < 8 ∧ u.pins.porst = false ∧ u.pins.wrst = false then
        if r.tag ∈ (u.ports.get p).tags then answer .tagBusy
        else if u.ctl.state = .running then
          .next { u with
            ports := u.ports.set p {
              queue := (u.ports.get p).queue ++ [r], tags := (u.ports.get p).tags ++ [r.tag] } }
        else if u.ctl.state = .halted then answer .halted
        else answer .notReady
      else .next u

/-- The candidate a grant goes to (R160 to R162): none without an empty slot; then the copy read, the patrol once it
has waited for 16 port grants, the first non-empty port from the pointer on, and the patrol. -/
def Obligations.ArbiterPrecedence : Prop :=
  ∀ s : State,
    let grants : Prop := s.ctl.state = .running ∨ s.ctl.state = .draining
    let copy : Prop := s.copy.state = .readSource ∧ grants ∧
      ∀ k, ∀ e ∈ s.entryAt k, e.work ≠ .copyRead s.copy.itemNo
    let patrol : Prop := s.patrol.state = .issuing ∧ s.ctl.state = .running
    let port : PortId → Prop := fun p => grants ∧ (s.ports.get p).queue ≠ [] ∧
      ∃ n : Fin 4, (portScan s.arbiter.pointer)[n.val]? = some p ∧
        ∀ m < n.val, ∀ q ∈ (portScan s.arbiter.pointer)[m]?, (s.ports.get q).queue = []
    ((∀ k < s.olt.slots.length, (s.entryAt k).isSome = true) → s.choice = none) ∧
    ((∃ k < s.olt.slots.length, s.entryAt k = none) →
      (copy → s.choice = some .copyRead) ∧
      (¬ copy → patrol → s.arbiter.patrolWait = 16 → s.choice = some .patrol) ∧
      (¬ copy → ¬ (patrol ∧ 16 ≤ s.arbiter.patrolWait) → ∀ p, port p → s.choice = some (.port p)) ∧
      (¬ copy → (¬ ∃ p, port p) → patrol → s.choice = some .patrol) ∧
      (¬ copy → (¬ ∃ p, port p) → ¬ patrol → s.choice = none))

/-- A granted port head that fails the access check is answered UNMAPPED or DENIED and recorded, and one that is a
write with an all-zero mask and passes is answered OK: neither takes an entry (R74, R146, R147). -/
def Obligations.PortHeadAnsweredAtGrant : Prop :=
  ∀ (s : State) (p : PortId) (r : Request) (rest : List Request), let u := s.opened
    u.choice = some (.port p) → (u.ports.get p).queue = r :: rest →
    let v : RespStatus → State := fun st => { u with
      ports := (u.ports.headTaken p).released p r.tag
      arbiter := { pointer := nextPort p, patrolWait :=
        if u.patrol.state = .issuing then min 16 (u.arbiter.patrolWait + 1) else u.arbiter.patrolWait }
      responses := u.responses ++
        [{ port := p, tag := r.tag, status := st, data := noData r.kind, mask := 0 }] }
    let denied : DenyReason → Record := fun d =>
      { Record.blank .accessDenied (.port p) with line := some r.line.toNat, detail := some (.denied d) }
    (u.regionOf r.line.toNat = none →
      exec .grantPortHead s = .next ((v .unmapped).offer (denied .unmapped))) ∧
    ∀ g, u.regionOf r.line.toNat = some g →
      (r.kind = .read → permits g.readMask p = false →
        exec .grantPortHead s = .next ((v .denied).offer (denied .port))) ∧
      ∀ mask data, r.kind = .write mask data →
        (permits g.writeMask p = false →
          exec .grantPortHead s = .next ((v .denied).offer (denied .port))) ∧
        (permits g.writeMask p = true → g.writeProtect = true →
          exec .grantPortHead s = .next ((v .denied).offer (denied .writeProtect))) ∧
        (permits g.writeMask p = true → g.writeProtect = false → mask = 0 →
          exec .grantPortHead s = .next (v .ok))

/-- A granted port head that passes the access check becomes an entry in the lowest empty slot with the region's
class, behind the newest entry of its line if there is one, and keeps its tag outstanding (R64, R66, R148, R164). -/
def Obligations.PortHeadBecomesEntry : Prop :=
  ∀ (s : State) (p : PortId) (r : Request) (rest : List Request) (g : Region) (k : Nat), let u := s.opened
    u.choice = some (.port p) → (u.ports.get p).queue = r :: rest → u.regionOf r.line.toNat = some g →
    u.entryAt k = none → k < u.olt.slots.length → (∀ j < k, (u.entryAt j).isSome = true) →
    let v : Work → State := fun work => { u with
      ports := u.ports.headTaken p
      arbiter := { pointer := nextPort p, patrolWait :=
        if u.patrol.state = .issuing then min 16 (u.arbiter.patrolWait + 1) else u.arbiter.patrolWait }
      olt := { order := u.olt.order ++ [k], slots := u.olt.slots.set k (some
        { work := work, line := r.line.toNat, cls := g.cls, place := none, result := none,
          state := .blocked (match u.newestOf r.line.toNat with | some m => .entry m | none => .turn) }) } }
    (r.kind = .read → permits g.readMask p = true →
      exec .grantPortHead s = .next (v (.demandRead p r.tag))) ∧
    ∀ mask data, r.kind = .write mask data → mask ≠ 0 → permits g.writeMask p = true → g.writeProtect = false →
      exec .grantPortHead s = .next (v (.demandWrite p r.tag mask data))

/-- The grant of the copy read makes a COPY_READ entry with the class of the line's region, or CHECKED outside every
region (R44); the grant of the patrol makes a PATROL entry when its line still qualifies, and otherwise passes the
line over (R111); either way the patrol wait count becomes 0 (R163). -/
def Obligations.UnitsGranted : Prop :=
  ∀ (s : State) (k : Nat), let u := s.opened
    u.entryAt k = none → k < u.olt.slots.length → (∀ j < k, (u.entryAt j).isSome = true) →
    let olt : Work → Nat → CheckClass → OpenTable := fun work line cls =>
      { order := u.olt.order ++ [k], slots := u.olt.slots.set k (some
        { work := work, line := line, cls := cls, place := none, result := none,
          state := .blocked (match u.newestOf line with | some m => .entry m | none => .turn) }) }
    (∀ i, u.choice = some .copyRead → u.copy.item = some i →
      exec .grantCopyRead s = .next { u with
        olt := olt (.copyRead u.copy.itemNo) i.line (match u.regionOf i.line with | some g => g.cls | none => .checked) }) ∧
    ∀ c, u.choice = some .patrol → u.patrol.candidate = some c →
      let arb : Arbiter := { pointer := u.arbiter.pointer, patrolWait := 0 }
      (∀ g, u.regionOf c.line = some g → g.cls = .checked → u.patrol.activity = .background → g.patrol = true →
        exec .grantPatrol s = .next { u with
          olt := olt .patrol c.line .checked
          arbiter := arb
          patrol := { u.patrol with state := .inFlight, visited := true } }) ∧
      (∀ g, u.regionOf c.line = some g → g.cls = .checked → u.patrol.activity = .scrub →
        exec .grantPatrol s = .next { u with
          olt := olt .patrol c.line .checked
          arbiter := arb
          patrol := { u.patrol with state := .inFlight } }) ∧
      ((∀ g ∈ u.regionOf c.line, g.cls = .unchecked ∨ g.patrol = false) → u.patrol.activity = .background →
        exec .grantPatrol s = .next { u with
          arbiter := arb
          patrol := { u.patrol with state := .waiting, timer := some u.patrol.interval, candidate := none } }) ∧
      ((∀ g ∈ u.regionOf c.line, g.cls = .unchecked) → u.patrol.activity = .scrub →
        exec .grantPatrol s = .next (({ u with
          arbiter := arb
          patrol := { u.patrol with candidate := none } } : State).scrubStep))

/-! ## The Line Engine: issue -/

/-- An entry whose turn has come issues at the array: a demand read, a partial write, a copy read and a patrol read
their place and a full write writes it, carrying an armed injection of its line (R15, R68, R75). The place is the one the
lookup gives: HOME without an entry or in COPYING, the current spare otherwise, and the COPY BUFFER in a copying state
with a valid buffer (R21). -/
def Obligations.EntryIssuesAtTheArray : Prop :=
  (∀ (u : State) (line : Nat),
    (u.entryOf line = none → u.sourceLoc line = .home ∧ u.lookup line = .loc .home) ∧
    ∀ e, u.entryOf line = some e →
      let copies : Loc → Prop := fun l => u.sourceLoc line = l ∧
        u.lookup line = if u.copy.buffer.valid = true then .copyBuffer else .loc l
      (∀ c m, e.state = .active c m → u.sourceLoc line = .spare c ∧ u.lookup line = .loc (.spare c)) ∧
      (∀ t, e.state = .copying t → copies .home) ∧
      (∀ c t m, e.state = .moving c t m → copies (.spare c)) ∧
      ∀ c m, e.state = .releasing c m → copies (.spare c)) ∧
  ∀ (s : State) (k : Nat) (e : OpenEntry), let u : State := { s with responses := [] }
    u.entryAt k = some e → e.state = .blocked .turn → (e.work = .patrol ∨ u.ctl.state ≠ .halted) →
    let reads : Loc → Bool → State := fun l decoded => { u with
      aif := { u.aif with ops := u.aif.ops ++ [u.readOp l e.line decoded (.engine k)] }
      olt := { order := u.olt.order, slots := u.olt.slots.set k (some
        { e with place := some (.loc l), state := .reading }) } }
    (∀ p t l, e.work = .demandRead p t → u.lookup e.line = .loc l →
      exec (.entryIssue k) s = .next (reads l (decide (e.cls = .checked)))) ∧
    (∀ p t mask data l, e.work = .demandWrite p t mask data → mask ≠ BitVec.allOnes 64 →
      u.lookup e.line = .loc l → exec (.entryIssue k) s = .next (reads l (decide (e.cls = .checked)))) ∧
    (∀ n, e.work = .copyRead n →
      exec (.entryIssue k) s = .next (reads (u.sourceLoc e.line) (decide (e.cls = .checked)))) ∧
    (e.work = .patrol → u.lineCopying e.line = false →
      exec (.entryIssue k) s = .next (reads (u.sourceLoc e.line) true)) ∧
    ∀ p t mask data l, e.work = .demandWrite p t mask data → mask = BitVec.allOnes 64 →
      u.lookup e.line = .loc l →
      exec (.entryIssue k) s = .next { u with
        aif := { u.aif with
          ops := u.aif.ops ++ [u.writeOp l e.line data (.engine k)], injection := u.injectionLeft e.line }
        olt := { order := u.olt.order, slots := u.olt.slots.set k (some
          { e with place := some (.loc l), state := .writing }) } }

/-- An entry that is served at its issue without an array operation and leaves the table: a demand read of the copy
buffer (R57), and a patrol read of a line in a copying state, which is skipped and counted (R80, R112). -/
def Obligations.EntryServedAtIssue : Prop :=
  ∀ (s : State) (k : Nat) (e : OpenEntry), let u : State := { s with responses := [] }
    u.entryAt k = some e → e.state = .blocked .turn →
    (∀ p t, e.work = .demandRead p t → u.ctl.state ≠ .halted → u.lookup e.line = .copyBuffer →
      (u.copy.buffer.poison = false → ∃ w, exec (.entryIssue k) s = .next w ∧ u.entryLeft w k ∧
        w = { u with
          olt := w.olt, ports := u.ports.released p t
          responses := u.responses ++ [{ port := p, tag := t, status := .ok, data := some u.copy.buffer.data, mask := 0 }] }) ∧
      (u.copy.buffer.poison = true → ∃ w, exec (.entryIssue k) s = .next w ∧ u.entryLeft w k ∧
        w = { (u.offer { Record.blank .poisonHit (.port p) with
                line := some e.line, place := some (u.sourceLoc e.line) }).count .poison with
          olt := w.olt, ports := u.ports.released p t
          responses := u.responses ++ [{ port := p, tag := t, status := .poisoned, data := some 0, mask := 0 }] })) ∧
    (e.work = .patrol → u.lineCopying e.line = true → ∃ v, u.entryLeft v k ∧
      v = { u.count .patrolSkipped with olt := v.olt } ∧
      exec (.entryIssue k) s = .next v.patrolEntryRemoved)

/-- A demand write that issues at the copy buffer: under the write hold it waits on the copy; over poison with a
partial mask it is answered POISONED; otherwise its bytes are merged, dirty is set and the merged line is written to
the source (R58, R59, R61, R69). -/
def Obligations.CopyBufferTakesWrites : Prop :=
  ∀ (s : State) (k : Nat) (e : OpenEntry) (p : PortId) (t : Tag) (mask : ByteMask) (data : LineData),
    let u : State := { s with responses := [] }
    u.entryAt k = some e → e.state = .blocked .turn → e.work = .demandWrite p t mask data →
    u.ctl.state ≠ .halted → u.lookup e.line = .copyBuffer →
    (u.copy.hold = true → exec (.entryIssue k) s = .next { u with
      olt := { order := u.olt.order, slots := u.olt.slots.set k (some { e with state := .blocked .copyHold }) } }) ∧
    (u.copy.hold = false → u.copy.buffer.poison = true → mask ≠ BitVec.allOnes 64 →
      ∃ w, exec (.entryIssue k) s = .next w ∧ u.entryLeft w k ∧
        w = { (u.offer { Record.blank .poisonHit (.port p) with
                line := some e.line, place := some (u.sourceLoc e.line) }).count .poison with
          olt := w.olt, ports := u.ports.released p t
          responses := u.responses ++ [{ port := p, tag := t, status := .poisoned, data := none, mask := 0 }] }) ∧
    (u.copy.hold = false → (u.copy.buffer.poison = false ∨ mask = BitVec.allOnes 64) → ∃ d : LineData,
      (∀ b < 64, lineByte d b =
        if mask.getLsbD b then lineByte data b else lineByte u.copy.buffer.data b) ∧
      exec (.entryIssue k) s = .next { u with
        copy := { u.copy with
          buffer := { data := d, poison := false, valid := u.copy.buffer.valid }, dirty := true }
        aif := { u.aif with
          ops := u.aif.ops ++ [u.writeOp (u.sourceLoc e.line) e.line d (.engine k)]
          injection := u.injectionLeft e.line }
        olt := { order := u.olt.order, slots := u.olt.slots.set k (some
          { e with place := some .copyBuffer, state := .writing }) } })

/-! ## The Line Engine: completions -/

/-- A demand read that finds its line CLEAN, or reads it RAW, is answered OK with the data and leaves the table; no
record, counter or list changes; a RAW read of a poisoned line gives zero data (R70). -/
def Obligations.DemandReadAnsweredOk : Prop :=
  ∀ (s : State) (k : Nat) (e : OpenEntry) (op : ArrayOp) (p : PortId) (t : Tag), let u := s.opened
    u.entryOp k = some (e, op) → e.work = .demandRead p t → e.state = .reading →
    let answered : LineData → Prop := fun d => ∃ w, exec (.demandReadComplete k) s = .next w ∧
      u.entryLeft w k ∧ u.opDone w op [] u.aif.injection ∧
      w = { u with
            aif := w.aif, freeReads := w.freeReads, olt := w.olt, ports := u.ports.released p t
            responses := u.responses ++
              [{ port := p, tag := t, status := .ok, data := some d, mask := 0 }] }
    (op.kind = .readLine true → (u.decodedRead op.phys).outcome = .clean →
      answered (u.decodedRead op.phys).data) ∧
    (op.kind = .readLine false → answered (u.rawRead op.phys) ∧
      (u.aif.mem.get op.phys = some storedPoison → answered 0))

/-- A demand read that finds its line CORRECTED is answered with the corrected data, recorded, counted and offered to
the Suspect List; under WRITEBACK_ON_CORRECT the line is written back, otherwise the entry leaves (R71). -/
def Obligations.DemandReadCorrected : Prop :=
  ∀ (s : State) (k : Nat) (e : OpenEntry) (op : ArrayOp) (p : PortId) (t : Tag) (l : Loc), let u := s.opened
    u.entryOp k = some (e, op) → e.work = .demandRead p t → e.state = .reading → e.place = some (.loc l) →
    op.kind = .readLine true → (u.decodedRead op.phys).outcome = .corrected →
    let r := u.decodedRead op.phys
    ∃ w, exec (.demandReadComplete k) s = .next w ∧
      w = { ((u.offer { Record.blank .corrected (.port p) with
                line := some e.line, place := some l, mask := some r.corrected, repeats := some 1 }).count
              .corrected).suspectUpdate e.line l r.corrected with
            aif := w.aif, freeReads := w.freeReads, olt := w.olt, ports := u.ports.released p t
            responses := u.responses ++
              [{ port := p, tag := t, status := .corrected, data := some r.data, mask := r.corrected }] } ∧
      (u.policy.writebackOnCorrect = false → u.entryLeft w k ∧ u.opDone w op [] u.aif.injection) ∧
      (u.policy.writebackOnCorrect = true →
        u.opDone w op [u.writeOp l e.line r.data (.engine k)] (u.injectionLeft e.line) ∧
        w.olt = { order := u.olt.order, slots := u.olt.slots.set k (some { e with
          state := .writeback, result := some { outcome := .corrected, corrected := r.corrected } }) })

/-- A demand read that finds its line UNCORRECTABLE is answered DATA_ERROR, recorded and counted; then the two
policies are applied, in their order (R72, R85, R86). -/
def Obligations.DemandReadUncorrectable : Prop :=
  ∀ (s : State) (k : Nat) (e : OpenEntry) (op : ArrayOp) (p : PortId) (t : Tag) (l : Loc), let u := s.opened
    u.entryOp k = some (e, op) → e.work = .demandRead p t → e.state = .reading → e.place = some (.loc l) →
    op.kind = .readLine true → (u.decodedRead op.phys).outcome = .uncorrectable →
    let r := u.decodedRead op.phys
    ∃ w, exec (.demandReadComplete k) s = .next (w.haltOnUe e.line) ∧
      u.entryLeft w k ∧ u.opDone w op [] u.aif.injection ∧
      w = { ((u.offer { Record.blank .uncorrectable (.port p) with
                line := some e.line, place := some l, mask := some r.errors }).count
              .uncorrectable).retireOnUe e.line with
            aif := w.aif, freeReads := w.freeReads, olt := w.olt, ports := u.ports.released p t
            responses := u.responses ++
              [{ port := p, tag := t, status := .dataError, data := some r.data, mask := r.corrected }] }

/-- A demand read or partial write that finds its line POISONED is answered POISONED, recorded and counted, and
leaves the table with nothing written (R73, R78). -/
def Obligations.PoisonedLineAnswersPoisoned : Prop :=
  ∀ (s : State) (k : Nat) (e : OpenEntry) (op : ArrayOp) (p : PortId) (t : Tag) (l : Loc), let u := s.opened
    u.entryOp k = some (e, op) → e.state = .reading → e.place = some (.loc l) →
    op.kind = .readLine true → (u.decodedRead op.phys).outcome = .poisoned →
    let answered : Option LineData → Instr → Prop := fun d i => ∃ w, exec i s = .next w ∧
      u.entryLeft w k ∧ u.opDone w op [] u.aif.injection ∧
      w = { (u.offer { Record.blank .poisonHit (.port p) with
              line := some e.line, place := some l }).count .poison with
            aif := w.aif, freeReads := w.freeReads, olt := w.olt, ports := u.ports.released p t
            responses := u.responses ++
              [{ port := p, tag := t, status := .poisoned, data := d, mask := 0 }] }
    (e.work = .demandRead p t → answered (some 0) (.demandReadComplete k)) ∧
    ∀ mask data, e.work = .demandWrite p t mask data → answered none (.partialWriteReadComplete k)

/-- A partial write whose line is CLEAN, CORRECTED or read RAW writes the merged line to its place; a CORRECTED
outcome is also recorded, counted and offered to the Suspect List (R76, R79). -/
def Obligations.PartialWriteMerges : Prop :=
  ∀ (s : State) (k : Nat) (e : OpenEntry) (op : ArrayOp) (p : PortId) (t : Tag) (mask : ByteMask)
    (data : LineData) (l : Loc), let u := s.opened
    u.entryOp k = some (e, op) → e.work = .demandWrite p t mask data → e.state = .reading →
    e.place = some (.loc l) →
    let r := u.decodedRead op.phys
    let merged : State → LineData → Option EntryResult → Prop := fun v old res => ∃ (w : State) (d : LineData),
      exec (.partialWriteReadComplete k) s = .next w ∧
      (∀ b < 64, lineByte d b = if mask.getLsbD b then lineByte data b else lineByte old b) ∧
      u.opDone w op [u.writeOp l e.line d (.engine k)] (u.injectionLeft e.line) ∧
      w = { v with
        aif := w.aif, freeReads := w.freeReads
        olt := { order := u.olt.order, slots := u.olt.slots.set k (some { e with state := .writing, result := res }) } }
    (op.kind = .readLine true → r.outcome = .clean →
      merged u r.data (some { outcome := .clean, corrected := r.corrected })) ∧
    (op.kind = .readLine true → r.outcome = .corrected →
      merged (((u.offer { Record.blank .corrected (.port p) with
          line := some e.line, place := some l, mask := some r.corrected, repeats := some 1 }).count
          .corrected).suspectUpdate e.line l r.corrected)
        r.data (some { outcome := .corrected, corrected := r.corrected })) ∧
    (op.kind = .readLine false → merged u (u.rawRead op.phys) none)

/-- A partial write whose line is UNCORRECTABLE poisons the line, with its record and counter (R77). -/
def Obligations.PartialWritePoisonsUncorrectable : Prop :=
  ∀ (s : State) (k : Nat) (e : OpenEntry) (op : ArrayOp) (p : PortId) (t : Tag) (mask : ByteMask)
    (data : LineData) (l : Loc), let u := s.opened
    u.entryOp k = some (e, op) → e.work = .demandWrite p t mask data → e.state = .reading →
    e.place = some (.loc l) → op.kind = .readLine true → (u.decodedRead op.phys).outcome = .uncorrectable →
    let r := u.decodedRead op.phys
    ∃ w, exec (.partialWriteReadComplete k) s = .next w ∧
      u.opDone w op [u.poisonOp l e.line (.engine k)] u.aif.injection ∧
      w = { (u.offer { Record.blank .uncorrectable (.port p) with
                line := some e.line, place := some l, mask := some r.errors }).count .uncorrectable with
            aif := w.aif, freeReads := w.freeReads
            olt := { order := u.olt.order, slots := u.olt.slots.set k (some { e with
                state := .writing, result := some { outcome := .uncorrectable, corrected := r.corrected } }) } }

/-- The completion of a demand write's array write answers it by its read result and removes its entry (R75, R76,
R79); that of a source write answers OK (R60); that of a write-back answers nothing (R71). -/
def Obligations.WriteCompletions : Prop :=
  ∀ (s : State) (k : Nat) (e : OpenEntry) (op : ArrayOp) (p : PortId) (t : Tag), let u := s.opened
    u.entryOp k = some (e, op) →
    let ends : Instr → State → Prop := fun i v => ∃ w, exec i s = .next w ∧
      u.entryLeft w k ∧ u.opDone w op [] u.aif.injection ∧
      w = { v with aif := w.aif, freeReads := w.freeReads, olt := w.olt }
    let answered : RespStatus → WordMask → State := fun st m => { u with
      ports := u.ports.released p t
      responses := u.responses ++ [{ port := p, tag := t, status := st, data := none, mask := m }] }
    (∀ mask data, e.work = .demandWrite p t mask data → e.state = .writing →
      (∀ l, e.place = some (.loc l) →
        (e.result = none → ends (.demandWriteComplete k) (answered .ok 0)) ∧
        (∀ m, e.result = some { outcome := .clean, corrected := m } →
          ends (.demandWriteComplete k) (answered .ok m)) ∧
        ∀ m, e.result = some { outcome := .corrected, corrected := m } →
          ends (.demandWriteComplete k) (answered .corrected m)) ∧
      (e.place = some .copyBuffer → ends (.sourceWriteComplete k) (answered .ok 0))) ∧
    (e.work = .demandRead p t → e.state = .writeback → ends (.writebackComplete k) u)

/-- The completion of a partial write's poison write answers DATA_ERROR, applies the two policies and removes the
entry (R77). -/
def Obligations.PoisonWriteAnswersDataError : Prop :=
  ∀ (s : State) (k : Nat) (e : OpenEntry) (op : ArrayOp) (p : PortId) (t : Tag) (mask : ByteMask)
    (data : LineData) (l : Loc) (m : WordMask), let u := s.opened
    u.entryOp k = some (e, op) → e.work = .demandWrite p t mask data → e.state = .writing →
    e.place = some (.loc l) → e.result = some { outcome := .uncorrectable, corrected := m } →
    ∃ w, exec (.rmwPoisonWriteComplete k) s = .next (w.haltOnUe e.line) ∧
      u.entryLeft w k ∧ u.opDone w op [] u.aif.injection ∧
      w = { u.retireOnUe e.line with
            aif := w.aif, freeReads := w.freeReads, olt := w.olt, ports := u.ports.released p t
            responses := u.responses ++
              [{ port := p, tag := t, status := .dataError, data := none, mask := m }] }

/-- A patrol read is counted and handled by its outcome: CLEAN and POISONED end the entry, CORRECTED is recorded and
scrubbed, UNCORRECTABLE is recorded and, under POISON_ON_UE, poisoned; the completion of the scrub or poison write
ends the entry (R80, R113, R114). After the entry has left, the background activity goes to OFF or WAITING by the mode,
and a targeted scrub takes its next step: the lowest CHECKED line of its range from its cursor on, or its end with DONE
(R114, R117). -/
def Obligations.PatrolCompletions : Prop :=
  (∀ u : State,
    let rests : PatrolUnit → PatrolUnit := fun p =>
      if p.mode = .off then { p with state := .off, timer := none, candidate := none }
      else { p with state := .waiting, timer := some p.interval, candidate := none }
    (u.patrol.activity = .background → u.patrolEntryRemoved = { u with patrol := rests u.patrol }) ∧
    (u.patrol.activity = .scrub →
      u.patrolEntryRemoved = ({ u with patrol := { u.patrol with candidate := none } } : State).scrubStep) ∧
    ∀ r, u.patrol.scrub = some r → u.regionsApart →
      let found : Nat → Prop := fun l => r.cursor ≤ l ∧ ∃ g ∈ u.regions.valid, g.cls = .checked ∧ g.base ≤ l ∧ l ≤ g.limit
      (∀ l, found l → (∀ l' < l, ¬ found l') → l ≤ r.last →
        u.scrubStep = { u with patrol := { u.patrol with
          state := .issuing, timer := none, candidate := some { line := l, owner := .scrub }
          scrub := some { first := r.first, last := r.last, cursor := l + 1 } } }) ∧
      ((∀ l, found l → r.last < l) →
        u.scrubStep = ({ u with
          patrol := rests { u.patrol with activity := .background, scrub := none } } : State).done .done)) ∧
  ∀ (s : State) (k : Nat) (e : OpenEntry) (op : ArrayOp) (l : Loc) (c : PatrolLine), let u := s.opened
    u.entryOp k = some (e, op) → e.work = .patrol → e.place = some (.loc l) → u.patrol.candidate = some c →
    let r := u.decodedRead op.phys
    let src : RecordSource := if c.owner = .scrub then .scrub else .patrol
    let ends : Instr → State → Prop := fun i v => ∃ w, exec i s = .next w.patrolEntryRemoved ∧
      u.entryLeft w k ∧ u.opDone w op [] u.aif.injection ∧
      w = { v with aif := w.aif, freeReads := w.freeReads, olt := w.olt }
    let writes : State → ArrayOp → Option Injection → Prop := fun v o inj => ∃ w,
      exec (.patrolReadComplete k) s = .next w ∧ u.opDone w op [o] inj ∧
      w = { v with
        aif := w.aif, freeReads := w.freeReads
        olt := { order := u.olt.order, slots := u.olt.slots.set k (some { e with
          state := .writeback, result := some { outcome := r.outcome, corrected := r.corrected } }) } }
    let bad : State := ((u.count .patrolLines).offer { Record.blank .uncorrectable src with
      line := some e.line, place := some l, mask := some r.errors }).count .uncorrectable
    (e.state = .reading → op.kind = .readLine true →
      (r.outcome = .clean → ends (.patrolReadComplete k) (u.count .patrolLines)) ∧
      (r.outcome = .poisoned →
        ends (.patrolReadComplete k) ((u.count .patrolLines).count .poisonSeen)) ∧
      (r.outcome = .corrected → writes
        ((((u.count .patrolLines).offer { Record.blank .corrected src with
            line := some e.line, place := some l, mask := some r.corrected, repeats := some 1 }).count
            .corrected).suspectUpdate e.line l r.corrected)
        (u.writeOp l e.line r.data (.engine k)) (u.injectionLeft e.line)) ∧
      (r.outcome = .uncorrectable → u.policy.poisonOnUe = true →
        writes bad (u.poisonOp l e.line (.engine k)) u.aif.injection) ∧
      (r.outcome = .uncorrectable → u.policy.poisonOnUe = false → ends (.patrolReadComplete k) bad)) ∧
    (e.state = .writeback → ends (.scrubWriteComplete k) u)

/-! ## The Copy Unit -/

/-- The copy read of the current item fills the buffer by its outcome and leaves the table; then the target write
issues, after the waiter of the copy read or before it as the command says (R45, R62). The target write is a poison
write when the buffer holds poison, clears dirty and goes to the target spare of a move or the home of a release
(R46). -/
def Obligations.CopyReadFillsTheBuffer : Prop :=
  (∀ (u : State) (line : Nat) (e : RemapEntry), u.entryOf line = some e →
    (∀ t, e.state = .copying t → u.copyDest line = .spare t) ∧
    (∀ c t m, e.state = .moving c t m → u.copyDest line = .spare t) ∧
    ∀ c m, e.state = .releasing c m → u.copyDest line = .home) ∧
  (∀ (s : State) (k : Nat) (e : OpenEntry) (op : ArrayOp) (l : Loc) (i : RetireItem), let u := s.opened
    u.entryOp k = some (e, op) → e.work = .copyRead u.copy.itemNo → e.state = .reading →
    e.place = some (.loc l) → u.copy.state ≠ .idle → u.copy.item = some i →
    let r := u.decodedRead op.phys
    let fills : State → LineData → Bool → Prop := fun v d poison => ∃ w,
      exec (.copyReadComplete k false) s = .next w.issueTarget ∧
      exec (.copyReadComplete k true) s = .next w.settleIssues.issueTarget ∧
      u.entryLeft w k ∧ u.opDone w op [] u.aif.injection ∧
      w = { v with
        aif := w.aif, freeReads := w.freeReads, olt := w.olt
        copy := { u.copy with buffer := { data := d, poison := poison, valid := true } } }
    (op.kind = .readLine false → fills u (u.rawRead op.phys) false) ∧
    (op.kind = .readLine true →
      (r.outcome = .clean → fills u r.data false) ∧
      (r.outcome = .corrected → fills u r.data false) ∧
      (r.outcome = .poisoned → fills u r.data true) ∧
      (r.outcome = .uncorrectable →
        fills ((u.offer { Record.blank .uncorrectable .copy with
          line := some e.line, place := some l, mask := some r.errors }).count .uncorrectable) r.data true))) ∧
  ∀ (u : State) (i : RetireItem), u.copy.item = some i →
    (u.copy.buffer.poison = false → u.issueTarget = { u with
      aif := { u.aif with
        ops := u.aif.ops ++
          [u.writeOp (u.copyDest i.line) i.line u.copy.buffer.data (.copyUnit u.copy.itemNo)]
        injection := u.injectionLeft i.line }
      copy := { u.copy with state := .writeTarget, dirty := false, expected := some .clean } }) ∧
    (u.copy.buffer.poison = true → u.issueTarget = { u with
      aif := { u.aif with
        ops := u.aif.ops ++ [u.poisonOp (u.copyDest i.line) i.line (.copyUnit u.copy.itemNo)] }
      copy := { u.copy with state := .writeTarget, dirty := false, expected := some .poisoned } })

/-- The target write's completion issues a decoded read of the same destination (R47); the completion of an operation
or copy read of an item that has ended is discarded, but for the entry it removes (R56). -/
def Obligations.TargetWriteAndLateCompletions : Prop :=
  (∀ (s : State) (i : RetireItem) (op : ArrayOp), let u := s.opened
    u.copy.state = .writeTarget → u.copy.item = some i → u.copyOp false = some op →
    ∃ w, exec .targetWriteComplete s = .next w ∧
      u.opDone w op [u.readOp (u.copyDest i.line) i.line true (.copyUnit u.copy.itemNo)] u.aif.injection ∧
      w = { u with
        aif := w.aif, freeReads := w.freeReads
        copy := { u.copy with state := .verify } }) ∧
  (∀ (s : State) (k : Nat) (e : OpenEntry) (op : ArrayOp) (n : BitVec 16), let u := s.opened
    u.entryOp k = some (e, op) → e.work = .copyRead n → e.state = .reading →
    (u.copy.state = .idle ∨ n ≠ u.copy.itemNo) →
    ∃ w, exec (.lateCompletion (.entry k)) s = .next w ∧ u.entryLeft w k ∧
      u.opDone w op [] u.aif.injection ∧
      w = { u with aif := w.aif, freeReads := w.freeReads, olt := w.olt }) ∧
  ∀ (s : State) (phys : Nat) (op : ArrayOp) (n : BitVec 16), let u := s.opened
    u.headOp phys = some op → op.issuer = .copyUnit n → (u.copy.state = .idle ∨ n ≠ u.copy.itemNo) →
    ∃ w, exec (.lateCompletion (.array phys)) s = .next w ∧ u.opDone w op [] u.aif.injection ∧
      w = { u with aif := w.aif, freeReads := w.freeReads }

/-- A good verify with dirty clear commits: the entry becomes ACTIVE on its target, or is removed for a release, the
old spare becomes FREE, the record, the counter and the command's result follow, and the Copy Unit is IDLE again with
the entry that waited on the hold free to issue (R33, R34, R51 to R53). That the invalid buffer keeps its data bytes is
the model's choice (log entry 17). -/
def Obligations.VerifyCommits : Prop :=
  (∀ e : OpenEntry,
    releaseHold none = none ∧
    (e.state = .blocked .copyHold → releaseHold (some e) = some { e with state := .blocked .turn }) ∧
    (e.state ≠ .blocked .copyHold → releaseHold (some e) = some e)) ∧
  ∀ (s : State) (i : RetireItem) (op : ArrayOp) (e : RemapEntry), let u := s.opened
    u.copy.state = .verify → u.copy.item = some i → u.copyOp true = some op → u.copy.dirty = false →
    (u.copy.expected = some .clean ∧ (u.decodedRead op.phys).outcome = .clean ∨
      u.copy.expected = some .poisoned ∧ (u.decodedRead op.phys).outcome = .poisoned) →
    u.entryOf i.line = some e →
    let ends : State → List SpareState → Option RemapEntry → Prop := fun v spares e' => ∃ w,
      exec .verifyComplete s = .next (if i.command then w.done .done else w) ∧
      u.opDone w op [] u.aif.injection ∧
      w = { v.count .retired with
        aif := w.aif, freeReads := w.freeReads
        lrt := { slots := replaceEntry u.lrt.slots i.line e', gen := u.lrt.gen + 1 }
        pool := { spares := spares, lowLevel := u.pool.lowLevel }
        olt := { order := u.olt.order, slots := u.olt.slots.map releaseHold }
        copy := { u.copy with
          state := .idle, item := none, dirty := false, rewrites := none, hold := false, attempts := none
          buffer := { data := u.copy.buffer.data, poison := false, valid := false }, expected := none } }
    let moved : Nat → State := fun t =>
      { u.offer { Record.blank .retired .copy with
          line := some i.line, place := some (.spare t), detail := some (.poisonedFlag u.copy.buffer.poison) } with
        suspects := { u.suspects with
          entries := u.suspects.entries.filter (fun x => x.line ≠ i.line) } }
    (∀ t, i.action = .move → e.state = .copying t →
      ends (moved t) u.pool.spares (some { e with state := .active t 1 })) ∧
    (∀ c t m, i.action = .move → e.state = .moving c t m →
      ends (moved t) (u.pool.spares.set c .free) (some { e with state := .active t (min (m + 1) 255) })) ∧
    ∀ c m, i.action = .release → e.state = .releasing c m →
      ends (u.offer { Record.blank .released .copy with line := some i.line, place := some .home })
        (u.pool.spares.set c .free) none

/-- A good verify with dirty set rewrites: up to four times counted, and then under the write hold (R48). -/
def Obligations.VerifyRewritesWhileDirty : Prop :=
  ∀ (s : State) (i : RetireItem) (op : ArrayOp) (n : Nat), let u := s.opened
    u.copy.state = .verify → u.copy.item = some i → u.copyOp true = some op → u.copy.dirty = true →
    (u.copy.expected = some .clean ∧ (u.decodedRead op.phys).outcome = .clean ∨
      u.copy.expected = some .poisoned ∧ (u.decodedRead op.phys).outcome = .poisoned) →
    u.copy.rewrites = some n →
    (n < 4 → ∃ w, exec .verifyComplete s = .next w.issueTarget ∧ u.opDone w op [] u.aif.injection ∧
      w = { u with
        aif := w.aif, freeReads := w.freeReads
        copy := { u.copy with rewrites := some (n + 1) } }) ∧
    (n = 4 → ∃ w, exec .verifyComplete s = .next w.issueTarget ∧ u.opDone w op [] u.aif.injection ∧
      w = { u with
        aif := w.aif, freeReads := w.freeReads
        copy := { u.copy with hold := true } })

/-- A verify failure of a move condemns its target: below the third attempt the lowest FREE spare becomes the target
and is written, and without one, or at the third attempt, the move is aborted; a failure of a release aborts it. Each
way makes its records, counter and result, and an abort restores the entry (R32, R35, R49, R50, R53). That the invalid
buffer keeps its data bytes after an abort is the model's choice (log entry 17). -/
def Obligations.VerifyFailureRetriesOrAborts : Prop :=
  ∀ (s : State) (i : RetireItem) (op : ArrayOp) (e : RemapEntry) (n : Nat), let u := s.opened
    u.copy.state = .verify → u.copy.item = some i → u.copyOp true = some op →
    ¬ (u.copy.expected = some .clean ∧ (u.decodedRead op.phys).outcome = .clean ∨
      u.copy.expected = some .poisoned ∧ (u.decodedRead op.phys).outcome = .poisoned) →
    u.entryOf i.line = some e → u.copy.attempts = some n →
    let bad : Nat → State := fun t =>
      u.offer { Record.blank .spareBad .copy with line := some i.line, spare := some t }
    let retried : Nat → Nat → RemapState → Prop := fun t f st => ∃ w,
      exec .verifyComplete s = .next
        ((w.noteCrossing (({ u.pool with spares := u.pool.spares.set t .bad } : SparePool).count
          .free)).issueTarget) ∧
      u.opDone w op [] u.aif.injection ∧
      w = { bad t with
        aif := w.aif, freeReads := w.freeReads
        lrt := { slots := replaceEntry u.lrt.slots i.line (some { e with state := st }), gen := u.lrt.gen + 1 }
        pool := { spares := (u.pool.spares.set t .bad).set f .held, lowLevel := u.pool.lowLevel }
        copy := { u.copy with attempts := some (n + 1) } }
    let aborted : State → List SpareState → Option RemapEntry → CmdResult → Prop := fun v spares e' res => ∃ w,
      exec .verifyComplete s = .next (if i.command then w.done res else w) ∧
      u.opDone w op [] u.aif.injection ∧
      w = { v.count .retireFailed with
        aif := w.aif, freeReads := w.freeReads
        lrt := { slots := replaceEntry u.lrt.slots i.line e', gen := u.lrt.gen + 1 }
        pool := { spares := spares, lowLevel := u.pool.lowLevel }
        olt := { order := u.olt.order, slots := u.olt.slots.map releaseHold }
        copy := { u.copy with
          state := .idle, item := none, dirty := false, rewrites := none, hold := false, attempts := none
          buffer := { data := u.copy.buffer.data, poison := false, valid := false }, expected := none } }
    let exhausted : State → State := fun v =>
      v.offer { Record.blank .spareExhausted .copy with line := some i.line }
    let failed : State → RecordKind → Loc → State := fun v kind l =>
      v.offer { Record.blank kind .copy with line := some i.line, place := some l }
    (∀ t, e.state = .copying t →
      (∀ f, n < 3 → u.pool.lowestFree = some f → retried t f (.copying f)) ∧
      (n < 3 → u.pool.lowestFree = none →
        aborted (exhausted (bad t)) (u.pool.spares.set t .bad) none .noSpare) ∧
      (n = 3 → aborted (failed (bad t) .retireFailed .home) (u.pool.spares.set t .bad) none .failed)) ∧
    (∀ c t m, e.state = .moving c t m →
      (∀ f, n < 3 → u.pool.lowestFree = some f → retried t f (.moving c f m)) ∧
      (n < 3 → u.pool.lowestFree = none →
        aborted (exhausted (bad t)) (u.pool.spares.set t .bad) (some { e with state := .active c m }) .noSpare) ∧
      (n = 3 → aborted (failed (bad t) .retireFailed (.spare c)) (u.pool.spares.set t .bad)
        (some { e with state := .active c m }) .failed)) ∧
    ∀ c m, e.state = .releasing c m →
      aborted (failed u .releaseFailed (.spare c)) u.pool.spares (some { e with state := .active c m }) .failed

/-- An item starts: a move takes the lowest FREE spare as its target, or ends NO_SPARE; a release begins for an ACTIVE
entry, or ends NOT_REMAPPED without one; then waiting suspects are offered again (R26, R30, R31, R41 to R43, R96). An
event that takes the free count from above SPARES_LOW_LEVEL to at or below it latches SPARES_LOW (R28); a new entry takes
the lowest empty slot and a changed one keeps its slot (R18). That the invalid buffer keeps its data bytes is the model's
choice (log entry 17), and that the re-offers follow the beginning of the item its reading (log entry 19). -/
def Obligations.ItemStarts : Prop :=
  (∀ (u : State) (before : Nat), let free := u.pool.spares.countP (fun x => x == .free)
    (u.pool.lowLevel < before ∧ free ≤ u.pool.lowLevel →
      u.noteCrossing before = { u with irq := u.irq.with .sparesLow }) ∧
    (¬ (u.pool.lowLevel < before ∧ free ≤ u.pool.lowLevel) → u.noteCrossing before = u)) ∧
  (∀ (slots : List (Option RemapEntry)) (j : Nat) (e x : RemapEntry) (new : Option RemapEntry),
    (slots[j]? = some none → (∀ i < j, slots[i]? ≠ some none) → fillLowest slots e = slots.set j (some e)) ∧
    (slots[j]? = some (some x) → (∀ i < j, ∀ y, slots[i]? = some (some y) → y.line ≠ x.line) →
      replaceEntry slots x.line new = slots.set j new)) ∧
  ∀ (s : State) (i : RetireItem) (rest : List RetireItem),
    let u : State := ({ s with responses := [] } : State).settleIssues
    u.copy.state = .idle → u.ctl.state = .running → u.rtq = i :: rest →
    let v : State := { u with
      rtq := rest
      copy := { u.copy with itemNo := u.copy.itemNo + 1 } }
    let begun : CopyUnit := { v.copy with
      state := .readSource, item := some i, dirty := false, rewrites := some 0, hold := false
      buffer := { data := u.copy.buffer.data, poison := false, valid := false }
      attempts := some 1, expected := none }
    let origin : RemapOrigin := match i.origin with
      | .suspect => .suspect
      | .uePolicy => .uePolicy
      | .command => .command
    let moves : Nat → List (Option RemapEntry) → Prop := fun t slots =>
      exec .itemStart s = .next ((({ v with
        lrt := { slots := slots, gen := u.lrt.gen + 1 }
        pool := { spares := u.pool.spares.set t .held, lowLevel := u.pool.lowLevel }
        copy := begun } : State).noteCrossing (u.pool.count .free)).reoffer)
    let endsAt : State → CmdResult → Prop := fun w res =>
      exec .itemStart s = .next ((if i.command then w.done res else w).reoffer)
    (i.action = .move →
      (∀ t, u.entryOf i.line = none → u.pool.lowestFree = some t →
        moves t (fillLowest u.lrt.slots { line := i.line, state := .copying t, origin := origin })) ∧
      (∀ t e c m, u.entryOf i.line = some e → e.state = .active c m → u.pool.lowestFree = some t →
        moves t (replaceEntry u.lrt.slots i.line
          (some { line := i.line, state := .moving c t m, origin := origin }))) ∧
      (u.lineCopying i.line = false → u.pool.lowestFree = none →
        endsAt ((v.offer { Record.blank .spareExhausted .copy with line := some i.line }).count .retireFailed)
          .noSpare)) ∧
    (i.action = .release →
      (∀ e c m, u.entryOf i.line = some e → e.state = .active c m →
        exec .itemStart s = .next (({ v with
          lrt := { slots := replaceEntry u.lrt.slots i.line
                     (some { line := i.line, state := .releasing c m, origin := origin }), gen := u.lrt.gen + 1 }
          copy := begun } : State).reoffer)) ∧
      (u.entryOf i.line = none → endsAt v .notRemapped))

/-! ## Suspects, records and policies -/

/-- A CORRECTED outcome updates the Suspect List: declined for a copying line; an entry at the same place counts up to
the threshold and moves to the tail; at another place it starts again; a new entry may evict the least counted entry
that is not waiting, or be dropped (R91 to R94). An entry that reaches the threshold is nominated. -/
def Obligations.SuspectUpdates : Prop :=
  ∀ (u : State) (line : Nat) (place : Loc) (mask : WordMask),
    let others := u.suspects.entries.filter (fun x => x.line ≠ line)
    let tail : List Suspect → Suspect → State := fun es e =>
      { u with suspects := { entries := es ++ [e], threshold := u.suspects.threshold } }
    let fresh : Suspect := { line := line, place := place, count := 1, mask := mask, waiting := false }
    let started : State → State := fun t => if u.suspects.threshold = 1 then t.nominate line else t
    (u.lineCopying line = true → u.suspectUpdate line place mask = u) ∧
    (u.lineCopying line = false →
      (∀ e, u.suspects.entries.find? (fun x => x.line == line) = some e →
        (e.place = place → e.waiting = true →
          u.suspectUpdate line place mask = tail others { e with mask := e.mask ||| mask }) ∧
        (e.place = place → e.waiting = false → e.count + 1 < u.suspects.threshold →
          u.suspectUpdate line place mask =
            tail others { e with count := e.count + 1, mask := e.mask ||| mask }) ∧
        (e.place = place → e.waiting = false → e.count + 1 = u.suspects.threshold →
          u.suspectUpdate line place mask =
            (tail others { e with count := e.count + 1, mask := e.mask ||| mask }).nominate line) ∧
        (e.place ≠ place → u.suspectUpdate line place mask = started (tail others fresh))) ∧
      ((∀ e ∈ u.suspects.entries, e.line ≠ line) →
        (u.suspects.entries.length < 16 →
          u.suspectUpdate line place mask = started (tail u.suspects.entries fresh)) ∧
        (u.suspects.entries.length = 16 → (∀ e ∈ u.suspects.entries, e.waiting = true) →
          u.suspectUpdate line place mask = u.count .suspectDrop) ∧
        (u.suspects.entries.length = 16 → (u.suspects.entries.map (fun x => x.line)).Nodup →
          ∀ (a b : List Suspect) (x : Suspect), u.suspects.entries = a ++ x :: b → x.waiting = false →
          (∀ y ∈ a, y.waiting = false → x.count < y.count) → (∀ y ∈ b, y.waiting = false → x.count ≤ y.count) →
          u.suspectUpdate line place mask = started { u.count .suspectEvict with
            suspects := { entries := a ++ b ++ [fresh], threshold := u.suspects.threshold } })))

/-- A nomination offers the line to the Retirement Queue: accepted, it is queued and its suspect entry leaves; refused
as already pending, the entry leaves; refused by a full queue, the entry waits where it stands (R95, R101). When an item
leaves the queue, the waiting entries are offered again from the head on: one already pending leaves and the next is
offered, an accepted one leaves and ends the re-offers, and a full queue ends them (R96). -/
def Obligations.NominationAnswers : Prop :=
  (∀ u : State,
    ((∀ e ∈ u.suspects.entries, e.waiting = false) → u.reoffer = u) ∧
    ∀ (a b : List Suspect) (x : Suspect), u.suspects.entries = a ++ x :: b → (∀ e ∈ a, e.waiting = false) →
      x.waiting = true → (u.suspects.entries.map (fun e => e.line)).Nodup →
      let dropped : State := { u with suspects := { u.suspects with entries := a ++ b } }
      ((∃ i ∈ u.rtq, i.line = x.line) ∨ u.lineCopying x.line = true → u.reoffer = dropped.reoffer) ∧
      ((∀ i ∈ u.rtq, i.line ≠ x.line) → u.lineCopying x.line = false →
        (u.rtq.length < 8 → u.reoffer = { dropped with
          rtq := u.rtq ++ [{ line := x.line, action := .move, origin := .suspect, command := false }] }) ∧
        (8 ≤ u.rtq.length → u.reoffer = u))) ∧
  ∀ (u : State) (line : Nat),
    let dropped : SuspectList := { u.suspects with
      entries := u.suspects.entries.filter (fun x => x.line ≠ line) }
    ((∃ i ∈ u.rtq, i.line = line) ∨ u.lineCopying line = true →
      u.nominate line = { u with suspects := dropped }) ∧
    ((∀ i ∈ u.rtq, i.line ≠ line) → u.lineCopying line = false → u.rtq.length < 8 →
      u.nominate line = { u with
        suspects := dropped
        rtq := u.rtq ++ [{ line := line, action := .move, origin := .suspect, command := false }] }) ∧
    ((∀ i ∈ u.rtq, i.line ≠ line) → u.lineCopying line = false → u.rtq.length = 8 →
      u.nominate line = { u with suspects := { u.suspects with
        entries := u.suspects.entries.map (fun x => if x.line = line then { x with waiting := true } else x) } })

/-- A record offered to the Error Record Queue is folded into a CORRECTED tail of the same line and place, appended
while there is room, or on a full queue dropped or, if it is major, appended in place of the newest minor record; what
is lost is counted and latches LOST, and an appended major record latches MAJOR (R126 to R130). -/
def Obligations.RecordOffers : Prop :=
  ∀ (u : State) (r : Record),
    let numbered : Record := { r with seq := u.erq.nextSeq }
    let appended : State → List Record → State := fun v rs => { v with
      erq := { records := rs ++ [numbered], nextSeq := u.erq.nextSeq + 1 }
      irq := if r.kind.minor then v.irq else v.irq.with .major }
    let lost : Counter → State := fun c => { u.count c with irq := u.irq.with .lost }
    (∀ (a : List Record) (x : Record) (n : Nat) (m m' : WordMask), u.erq.records = a ++ [x] →
      r.kind = .corrected → x.kind = .corrected → x.line = r.line → x.place = r.place → x.repeats = some n →
      x.mask = some m → r.mask = some m' →
      u.offer r = { u with erq := { u.erq with
        records := a ++ [{ x with repeats := some (min 255 (n + 1)), mask := some (m ||| m') }] } }) ∧
    ((∀ a x, u.erq.records = a ++ [x] →
        ¬ (r.kind = .corrected ∧ x.kind = .corrected ∧ x.line = r.line ∧ x.place = r.place)) →
      (u.erq.records.length < 32 → u.offer r = appended u u.erq.records) ∧
      (u.erq.records.length = 32 → r.kind.minor = true → u.offer r = lost .lostMinor) ∧
      (u.erq.records.length = 32 → r.kind.minor = false →
        (∀ a x b, u.erq.records = a ++ x :: b → x.kind.minor = true → (∀ y ∈ b, y.kind.minor = false) →
          u.offer r = appended (lost .lostMinor) (a ++ b)) ∧
        ((∀ y ∈ u.erq.records, y.kind.minor = false) → u.offer r = lost .lostMajor)))

/-- The two policies after an uncorrectable demand outcome: RETIRE_ON_UE offers the line to the Retirement Queue and
counts a full queue (R85); HALT_ON_UE enters HALTED from RUNNING and DRAINING alone (R86). Entry to HALTED makes its
record and latches its cause (R179); answers HALTED, on each port, the BLOCKED demand entries in grant order and then the
queued requests, and releases their tags (R168); removes those entries and a BLOCKED copy read, and keeps every PATROL
entry and every entry at the array (R180); aborts the Copy Unit's item, the target FREE and the entry where it was
(R54, R35; that the buffer keeps its bytes is the model's choice, log entry 17); withdraws the patrol's candidate, with
the cursor set back for background activity, and ends a targeted scrub (R118, R119); removes a command's queued item,
keeps the others in order and re-offers (R102); ends a STOP or the command of the work it ends with ABORTED (R181); and
leaves every array operation at the array. The effects follow one another in the order of log entry 20, the model's
reading. -/
def Obligations.PoliciesAfterUncorrectable : Prop :=
  (∀ (u : State) (line : Nat),
    (u.policy.retireOnUe = false → u.retireOnUe line = u) ∧
    (u.policy.retireOnUe = true →
      ((∃ i ∈ u.rtq, i.line = line) ∨ u.lineCopying line = true → u.retireOnUe line = u) ∧
      ((∀ i ∈ u.rtq, i.line ≠ line) → u.lineCopying line = false →
        (u.rtq.length < 8 → u.retireOnUe line = { u with
          rtq := u.rtq ++ [{ line := line, action := .move, origin := .uePolicy, command := false }] }) ∧
        (u.rtq.length = 8 → u.retireOnUe line = u.count .rtqFull)))) ∧
  ∀ (u : State) (line : Nat),
    ((u.policy.haltOnUe = false ∨ (u.ctl.state ≠ .running ∧ u.ctl.state ≠ .draining)) → u.haltOnUe line = u) ∧
    (u.policy.haltOnUe = true → (u.ctl.state = .running ∨ u.ctl.state = .draining) → u.openSound →
      let t := u.haltOnUe line
      let recorded := u.offer { Record.blank .halted .controller with line := some line }
      let blockedAnswer : PortId → OpenEntry → Option Response := fun p e => match e.state, e.work with
        | .blocked _, .demandRead q g =>
          if q = p then some { port := p, tag := g, status := .halted, data := some 0, mask := 0 } else none
        | .blocked _, .demandWrite q g _ _ =>
          if q = p then some { port := p, tag := g, status := .halted, data := none, mask := 0 } else none
        | _, _ => none
      let answers : PortId → List Response := fun p =>
        u.olt.order.filterMap (fun k => (u.entryAt k).bind (blockedAnswer p)) ++
        (u.ports.get p).queue.map (fun r =>
          { port := p, tag := r.tag, status := .halted, data := noData r.kind, mask := 0 })
      let leaves : OpenEntry → Prop := fun e => e.atArray = false ∧ e.work ≠ .patrol
      let kept := u.rtq.filter (fun i => !i.command)
      let commanded : Prop := ∃ i ∈ u.rtq, i.command = true
      let aborts : Prop := (∃ i, u.copy.item = some i ∧ i.command = true) ∨ (∃ r, u.patrol.scrub = some r) ∨ commanded ∨
        ∃ r, u.cmd.running = some r ∧ r.command = .stop
      let restored : RetireItem → Option RemapEntry → List SpareState → Prop := fun i e' spares =>
        t.lrt = { slots := replaceEntry u.lrt.slots i.line e', gen := u.lrt.gen + 1 } ∧
        t.pool = { spares := spares, lowLevel := u.pool.lowLevel }
      let rests : PatrolUnit → PatrolUnit := fun p =>
        if p.mode = .off then { p with state := .off, timer := none, candidate := none }
        else { p with state := .waiting, timer := some p.interval, candidate := none }
      t.ctl = { u.ctl with state := .halted, haltReason := .ueOnDemand } ∧
      t.erq = recorded.erq ∧ t.counters = recorded.counters ∧
      (∀ c, c ≠ .halted → c ≠ .cmdDone → t.irq.latched.get c = recorded.irq.latched.get c) ∧
      t.irq.latched.get .halted = true ∧ (aborts → t.irq.latched.get .cmdDone = true) ∧
      (¬ aborts → t.irq.latched.get .cmdDone = u.irq.latched.get .cmdDone) ∧
      t.irq.enable = u.irq.enable ∧ t.irq.enableRecord = u.irq.enableRecord ∧
      (∀ p, t.responses.filter (fun r => r.port = p) = u.responses.filter (fun r => r.port = p) ++ answers p) ∧
      (∀ p, t.ports.get p = {
        queue := [], tags := (u.ports.get p).tags.filter (fun g => decide (∀ r ∈ answers p, r.tag ≠ g)) }) ∧
      (∀ k e, u.entryAt k = some e → leaves e → t.entryAt k = none) ∧
      (∀ k e, u.entryAt k = some e → e.atArray = true → t.entryAt k = some e) ∧
      (∀ k e, u.entryAt k = some e → e.work = .patrol → ∃ st, t.entryAt k = some { e with state := st }) ∧
      (∀ k, u.entryAt k = none → t.entryAt k = none) ∧
      t.olt.order = u.olt.order.filter (fun k => (t.entryAt k).isSome) ∧
      (u.copy.item = none → t.copy = u.copy ∧ t.lrt = u.lrt ∧ t.pool = u.pool) ∧
      (∀ i, u.copy.item = some i →
        t.copy = { u.copy with
          state := .idle, item := none, dirty := false, rewrites := none, hold := false, attempts := none
          buffer := { data := u.copy.buffer.data, poison := false, valid := false }, expected := none } ∧
        ∀ e, u.entryOf i.line = some e →
          (∀ g, e.state = .copying g → restored i none (u.pool.spares.set g .free)) ∧
          (∀ c g m, e.state = .moving c g m →
            restored i (some { e with state := .active c m }) (u.pool.spares.set g .free)) ∧
          ∀ c m, e.state = .releasing c m → restored i (some { e with state := .active c m }) u.pool.spares) ∧
      (u.patrol.scrub = none →
        (∀ c, u.patrol.state = .issuing → u.patrol.candidate = some c →
          t.patrol = { u.patrol with
            state := .waiting, timer := some u.patrol.interval, candidate := none, cursor := c.line } ∧
          t.arbiter = { u.arbiter with patrolWait := 0 }) ∧
        (u.patrol.state ≠ .issuing → t.patrol = u.patrol ∧ t.arbiter = u.arbiter)) ∧
      (∀ r, u.patrol.scrub = some r →
        (u.patrol.state = .issuing →
          t.patrol = rests { u.patrol with scrub := none, activity := .background } ∧
          t.arbiter = { u.arbiter with patrolWait := 0 }) ∧
        (u.patrol.state ≠ .issuing →
          t.patrol = { u.patrol with scrub := none, activity := .background } ∧ t.arbiter = u.arbiter)) ∧
      (¬ commanded → t.rtq = u.rtq ∧ t.suspects = u.suspects) ∧
      (commanded → let v : State := ({ t with rtq := kept, suspects := u.suspects } : State).reoffer
        t.rtq = v.rtq ∧ t.suspects = v.suspects) ∧
      (aborts → t.cmd = { u.cmd with running := none, result := .aborted }) ∧ (¬ aborts → t.cmd = u.cmd) ∧
      t.aif = u.aif ∧ t.regions = u.regions ∧ t.policy = u.policy ∧ t.pins = u.pins ∧ t.pending = u.pending ∧
      t.freeReads = u.freeReads)

/-! ## The Patrol Unit -/

/-- A timer expiry outside RUNNING restarts the timer; in RUNNING it takes the lowest qualifying line at or above the
cursor as candidate, ends the sweep when there is none and a line was visited, and otherwise starts again from line 0
(R107 to R109). -/
def Obligations.PatrolTimerExpiry : Prop :=
  ∀ (s : State) (n : Nat), let u := s.opened
    u.patrol.timer = some n →
    let found : Nat → Prop := fun l => u.patrol.cursor ≤ l ∧
      ∃ g ∈ u.regions.valid, g.cls = .checked ∧ g.patrol = true ∧ g.base ≤ l ∧ l ≤ g.limit
    let waits : PatrolUnit → PatrolUnit := fun p =>
      { p with state := .waiting, timer := some p.interval, candidate := none }
    (u.ctl.state ≠ .running → exec .patrolTimerExpiry s = .next { u with patrol := waits u.patrol }) ∧
    (u.ctl.state = .running → u.regionsApart →
      (∀ l, found l → (∀ l' < l, ¬ found l') →
        exec .patrolTimerExpiry s = .next { u with patrol := { u.patrol with
          state := .issuing, timer := none, cursor := l + 1
          candidate := some { line := l, owner := .background } } }) ∧
      ((∀ l, ¬ found l) → u.patrol.visited = false →
        exec .patrolTimerExpiry s = .next { u with patrol := waits { u.patrol with cursor := 0 } }) ∧
      ((∀ l, ¬ found l) → u.patrol.visited = true →
        let p : PatrolUnit := { u.patrol with sweep := u.patrol.sweep + 1, cursor := 0, visited := false }
        exec .patrolTimerExpiry s = .next
          { ((u.offer { Record.blank .sweepDone .patrol with
              detail := some (.sweepNumber (u.patrol.sweep + 1)) }).count .sweeps).latch .sweep with
            suspects := { u.suspects with entries := u.suspects.entries.filterMap (fun e =>
              if e.waiting then some e else if e.count ≤ 1 then none
              else some { e with count := e.count - 1 }) }
            patrol := match u.patrol.mode with
              | .continuous => waits p
              | .single => { p with mode := .off, state := .off, timer := none, candidate := none }
              | .off => { p with state := .off, timer := none, candidate := none } }))

/-! ## The Controller -/

/-- The fill writes zero to each logical line in turn at its place, carrying an armed injection (R172); a fill write's
completion stores it; the fill ends once every line is issued and none is outstanding (R173). -/
def Obligations.InitFill : Prop :=
  (∀ s : State, let u := s.opened
    u.ctl.state = .initializing → u.ctl.initProgress < u.aif.size.logical →
    exec .fillWriteIssue s = .next { u with
      aif := { u.aif with
        ops := u.aif.ops ++ [u.writeOp (u.sourceLoc u.ctl.initProgress) u.ctl.initProgress 0 .controller]
        injection := u.injectionLeft u.ctl.initProgress }
      ctl := { u.ctl with initProgress := u.ctl.initProgress + 1 } }) ∧
  (∀ (s : State) (line : Nat) (op : ArrayOp), let u := s.opened
    u.completable (fun o => decide (o.issuer = .controller ∧ o.line = line)) = some op →
    ∃ w, exec (.fillWriteComplete line) s = .next w ∧ u.opDone w op [] u.aif.injection ∧
      w = { u with aif := w.aif, freeReads := w.freeReads }) ∧
  ∀ s : State, let u := ({ s with responses := [] } : State).settleIssues.settleStarts
    u.ctl.state = .initializing → u.ctl.initProgress = u.aif.size.logical →
    (∀ o ∈ u.aif.ops, o.issuer ≠ .controller) →
    exec .initFillEnd s = .next (({ u with ctl := { u.ctl with state := .stopped } } : State).done .done)

/-- A drain ends in STOPPED once the queues and the Open-Line Table are empty, the Copy Unit is IDLE and no patrol is
in flight (R177); a STOP waiting in HALTED ends in STOPPED once the table is empty (R178, R182). -/
def Obligations.DrainsAndHaltedStopsEnd : Prop :=
  ∀ s : State, let u := ({ s with responses := [] } : State).settleIssues.settleStarts
    let stopped : State := ({ u with ctl := { u.ctl with state := .stopped, haltReason := .none } } : State).done .done
    (u.ctl.state = .draining → (∀ p, (u.ports.get p).queue = []) → (∀ k, u.entryAt k = none) →
      u.copy.state = .idle → u.patrol.state ≠ .inFlight → exec .drainComplete s = .next stopped) ∧
    (u.ctl.state = .halted → (∃ r, u.cmd.running = some r ∧ r.command = .stop) → (∀ k, u.entryAt k = none) →
      exec .haltedStopComplete s = .next stopped)

/-! ## Maintenance commands -/

/-- START in STOPPED enters RUNNING (R175); INIT in UNINIT or STOPPED starts the fill and holds the slot (R171); STOP in
RUNNING withdraws a background candidate and drains, ending at once when the drain condition already holds (R110, R176,
R177), in HALTED it ends or waits by the Open-Line Table (R178), and in STOPPED it completes. In any other state each
completes with WRONG_STATE and changes nothing else. -/
def Obligations.InitStartAndStop : Prop :=
  ∀ s : State, let u := s.opened
    u.slotFree →
    let stopped : State → State := fun v =>
      ({ v with ctl := { u.ctl with state := .stopped, haltReason := .none } } : State).done .done
    let drains : State → Prop := fun v =>
      (v.drained = true → exec .stop s = .next (stopped v)) ∧
      (v.drained = false →
        exec .stop s = .next (({ v with ctl := { u.ctl with state := .draining } } : State).held .stop))
    (u.ctl.state = .stopped →
      exec .start s = .next (({ u with ctl := { u.ctl with state := .running } } : State).done .done)) ∧
    (u.ctl.state ≠ .stopped → exec .start s = .next (u.done .wrongState)) ∧
    (u.ctl.state = .uninit ∨ u.ctl.state = .stopped →
      exec .init s = .next (({ u with
        ctl := { u.ctl with state := .initializing, initProgress := 0 }
        suspects := { u.suspects with entries := [] }
        rtq := []
        patrol := { u.patrol with cursor := 0, visited := false } } : State).held .init)) ∧
    (u.ctl.state ≠ .uninit → u.ctl.state ≠ .stopped → exec .init s = .next (u.done .wrongState)) ∧
    (u.ctl.state = .running →
      (u.patrol.state ≠ .issuing → drains u) ∧
      (∀ c, u.patrol.state = .issuing → u.patrol.candidate = some c → drains { u with
        patrol := { u.patrol with
          state := .waiting, timer := some u.patrol.interval, candidate := none, cursor := c.line }
        arbiter := { u.arbiter with patrolWait := 0 } })) ∧
    (u.ctl.state = .halted →
      ((∀ k, u.entryAt k = none) → exec .stop s = .next (stopped u)) ∧
      (∀ k e, u.entryAt k = some e → exec .stop s = .next (u.held .stop))) ∧
    (u.ctl.state = .stopped → exec .stop s = .next (u.done .done)) ∧
    (u.ctl.state = .uninit ∨ u.ctl.state = .initializing ∨ u.ctl.state = .draining →
      exec .stop s = .next (u.done .wrongState))

/-- SET_REGION tests the index, the staged range, the array and the other regions in this order, and then the indexed
entry takes the staged fields (R143). -/
def Obligations.SetRegionTests : Prop :=
  ∀ s : State, let u := s.opened
    u.slotFree → u.ctl.state ≠ .initializing →
    let n := u.cmd.arg0.toNat
    let g := u.regions.stage
    let meets : Prop := ∃ j r, j ≠ n ∧ u.regions.entries[j]? = some (some r) ∧ r.base ≤ g.limit ∧ g.base ≤ r.limit
    (7 < n → exec .setRegion s = .next (u.done .badArgument)) ∧
    (n ≤ 7 → g.limit < g.base → exec .setRegion s = .next (u.done .badArgument)) ∧
    (n ≤ 7 → g.base ≤ g.limit → u.aif.size.logical ≤ g.limit →
      exec .setRegion s = .next (u.done .badArgument)) ∧
    (n ≤ 7 → g.base ≤ g.limit → g.limit < u.aif.size.logical → meets →
      exec .setRegion s = .next (u.done .overlap)) ∧
    (n ≤ 7 → g.base ≤ g.limit → g.limit < u.aif.size.logical → ¬ meets →
      exec .setRegion s = .next (({ u with
        regions := { u.regions with entries := u.regions.entries.set n (some g) } } : State).done .done))

/-- A CLEAR_REGION that is taken completes with BAD_ARGUMENT when CMD_ARG0 is above 7; otherwise the indexed entry
becomes invalid and reads as zero, its lines lie in no region, and the command completes with DONE; an invalid entry
stays as it is (R144). -/
def Obligations.ClearRegion : Prop :=
  ∀ s : State, let u := s.opened
    u.slotFree → u.ctl.state ≠ .initializing →
    let n := u.cmd.arg0.toNat
    let cleared : State := { u with regions := { u.regions with entries := u.regions.entries.set n none } }
    (7 < n → exec .clearRegion s = .next (u.done .badArgument)) ∧
    (n ≤ 7 → exec .clearRegion s = .next (cleared.done .done) ∧
      ∀ w, cleared.viewReg (.regionView n w) = 0) ∧
    (u.regions.entries[n]? = some none → cleared = u) ∧
    ∀ g line, u.regionsApart → u.regions.entries[n]? = some (some g) → g.base ≤ line → line ≤ g.limit →
      cleared.regionOf line = none

/-- RETIRE and RELEASE test the line and offer their item: an accepted one holds the slot, a refused one completes
with its reason (R194, R195); outside RUNNING they complete with WRONG_STATE. -/
def Obligations.RetireAndReleaseOffer : Prop :=
  ∀ s : State, let u := s.opened
    u.slotFree →
    let n := u.cmd.arg0.toNat
    let offers : Instr → Command → ItemAction → Prop := fun c cmd a =>
      ((∃ i ∈ u.rtq, i.line = n) ∨ u.lineCopying n = true → exec c s = .next (u.done .alreadyPending)) ∧
      ((∀ i ∈ u.rtq, i.line ≠ n) → u.lineCopying n = false → u.rtq.length < 8 →
        exec c s = .next (({ u with
          rtq := u.rtq ++ [{ line := n, action := a, origin := .command, command := true }] } : State).held cmd)) ∧
      ((∀ i ∈ u.rtq, i.line ≠ n) → u.lineCopying n = false → 8 ≤ u.rtq.length →
        exec c s = .next (u.done .queueFull))
    (u.ctl.state = .running →
      (u.aif.size.logical ≤ n → exec .retire s = .next (u.done .badArgument) ∧
        exec .release s = .next (u.done .notRemapped)) ∧
      (n < u.aif.size.logical → offers .retire .retire .move ∧ offers .release .release .release)) ∧
    (u.ctl.state ≠ .running →
      exec .retire s = .next (u.done .wrongState) ∧ exec .release s = .next (u.done .wrongState))

/-- LOAD_REMAP tests the line and the spare and creates an ACTIVE entry with moves 1 and origin RESTORE in the lowest
empty slot; outside UNINIT and STOPPED it completes with WRONG_STATE (R36). MARK_SPARE_BAD condemns a FREE spare with its
record and crossing test, leaves a BAD one, and refuses a HELD one (R37, R123). -/
def Obligations.LoadRemapAndMarkSpareBad : Prop :=
  ∀ s : State, let u := s.opened
    u.slotFree →
    let line := u.cmd.arg0.toNat
    let n := u.cmd.arg1.toNat
    let loaded : State := { u with
      lrt := {
        gen := u.lrt.gen + 1
        slots := fillLowest u.lrt.slots { line := line, state := .active n 1, origin := .restore } }
      pool := { u.pool with spares := u.pool.spares.set n .held } }
    let marked : State := { u with
      pool := { u.pool with spares := u.pool.spares.set line .bad } }
    (u.ctl.state = .uninit ∨ u.ctl.state = .stopped →
      (u.aif.size.logical ≤ line ∨ 127 < n → exec .loadRemap s = .next (u.done .badArgument)) ∧
      (line < u.aif.size.logical → n ≤ 127 →
        (∀ e, u.entryOf line = some e → exec .loadRemap s = .next (u.done .remapped)) ∧
        (u.entryOf line = none → u.pool.get n ≠ .free → exec .loadRemap s = .next (u.done .spareNotFree)) ∧
        (u.entryOf line = none → u.pool.get n = .free →
          exec .loadRemap s = .next ((loaded.noteCrossing (u.pool.count .free)).done .done)))) ∧
    (u.ctl.state ≠ .uninit → u.ctl.state ≠ .stopped → exec .loadRemap s = .next (u.done .wrongState)) ∧
    (u.ctl.state ≠ .initializing →
      (127 < line → exec .markSpareBad s = .next (u.done .badArgument)) ∧
      (line ≤ 127 → u.pool.get line = .free → exec .markSpareBad s = .next
        (((marked.noteCrossing (u.pool.count .free)).offer
          { Record.blank .spareBad .command with spare := some line }).done .done)) ∧
      (line ≤ 127 → u.pool.get line = .bad → exec .markSpareBad s = .next (u.done .done)) ∧
      (line ≤ 127 → u.pool.get line = .held → exec .markSpareBad s = .next (u.done .spareNotFree)))

/-- SCRUB tests its range; taken, it stops the timer or withdraws the background candidate and takes the lowest CHECKED
line of the range as candidate, or ends DONE without one; with a background line in flight it waits for it (R116,
R117). -/
def Obligations.ScrubStarts : Prop :=
  ∀ s : State, let u := s.opened
    u.slotFree →
    let a := u.cmd.arg0.toNat
    let b := u.cmd.arg1.toNat
    let found : Nat → Prop := fun l => a ≤ l ∧ ∃ g ∈ u.regions.valid, g.cls = .checked ∧ g.base ≤ l ∧ l ≤ g.limit
    let steps : PatrolUnit → Arbiter → Prop := fun p arb =>
      (∀ l, found l → (∀ l' < l, ¬ found l') → l ≤ b →
        exec .scrub s = .next (({ u with
          arbiter := arb
          patrol := { p with
            state := .issuing, activity := .scrub, timer := none, candidate := some { line := l, owner := .scrub }
            scrub := some { first := a, last := b, cursor := l + 1 } } } : State).held .scrub)) ∧
      ((∀ l, found l → b < l) →
        exec .scrub s = .next (({ u with
          arbiter := arb
          patrol := if p.mode = .off then
              { p with state := .off, activity := .background, timer := none, candidate := none, scrub := none }
            else { p with
              state := .waiting, activity := .background, timer := some p.interval, candidate := none
              scrub := none } } : State).done .done))
    (u.ctl.state ≠ .running → exec .scrub s = .next (u.done .wrongState)) ∧
    (u.ctl.state = .running →
      (b < a ∨ u.aif.size.logical ≤ b → exec .scrub s = .next (u.done .badArgument)) ∧
      (a ≤ b → b < u.aif.size.logical → u.regionsApart →
        (u.patrol.state = .off → steps u.patrol u.arbiter) ∧
        (u.patrol.state = .waiting → steps u.patrol u.arbiter) ∧
        (∀ c, u.patrol.state = .issuing → u.patrol.candidate = some c →
          steps { u.patrol with cursor := c.line } { u.arbiter with patrolWait := 0 }) ∧
        (u.patrol.state = .inFlight → exec .scrub s = .next (({ u with
          patrol := { u.patrol with
            activity := .scrub, scrub := some { first := a, last := b, cursor := a } } } : State).held .scrub))))

/-- INJECT tests its arguments and arms the injection in place of an armed one (R14, R196); CLEAR_SUSPECTS empties the
list in every state (R99). -/
def Obligations.InjectAndClearSuspects : Prop :=
  ∀ s : State, let u := s.opened
    u.slotFree →
    let ok : Prop := u.cmd.arg0.toNat < u.aif.size.logical ∧ u.cmd.arg1.toNat ≤ 7 ∧
      (u.cmd.arg2.toNat = 1 ∨ u.cmd.arg2.toNat = 2)
    let inj : Injection := { line := u.cmd.arg0.toNat, word := u.cmd.arg1.toNat, bits := u.cmd.arg2.toNat }
    let armed : State := { u with aif := { u.aif with injection := some inj } }
    (u.ctl.state = .running ∨ u.ctl.state = .stopped →
      (¬ ok → exec .inject s = .next (u.done .badArgument)) ∧
      (ok → exec .inject s = .next (armed.done .done))) ∧
    (u.ctl.state ≠ .running → u.ctl.state ≠ .stopped → exec .inject s = .next (u.done .wrongState)) ∧
    exec .clearSuspects s = .next (({ u with suspects := { u.suspects with entries := [] } } : State).done .done)

/-- A value that is no code completes with UNKNOWN and changes nothing else (R189); while a command is in progress any
write to CMD_CODE sets REFUSED and changes nothing else (R190). -/
def Obligations.UnknownAndRefusedCodes : Prop :=
  (∀ (s : State) (code : Word32), let u := s.opened
    u.slotFree → isCode code = false → exec (.unknownCommand code) s = .next (u.done .unknown)) ∧
  ∀ (s : State) (code : Word32) (r : RunningCommand), let u := s.opened
    u.pins.porst = false → u.pins.wrst = false → u.cmd.running = some r →
    ∀ i ∈ [Instr.commandRefused code, .unknownCommand code, .init, .start, .stop, .setRegion, .clearRegion, .retire,
        .release, .loadRemap, .markSpareBad, .scrub, .inject, .clearSuspects],
      exec i s = .next { u with cmd := { u.cmd with refused := true } }

/-! ## The register window -/

/-- ARRAY_CFG takes one of the five sizes in UNINIT while no remap entry and no region exists (R1); SUSPECT_CFG takes a
threshold from 1 to 15, clamps the counts, and offers the entries at the threshold one at a time in list order (R97);
every other write to them is ignored, as is one without all four byte enables or during a reset (R184, R198). -/
def Obligations.ConfigurationWrites : Prop :=
  (∀ u : State, nominateLines [] u = u) ∧
  (∀ (u : State) (line : Nat) (rest : List Nat),
    nominateLines (line :: rest) u = nominateLines rest (u.nominate line)) ∧
  (∀ (s : State) (v : Word32) (be : Enables), let u := s.opened
    be ≠ 15 ∨ u.pins.porst = true ∨ u.pins.wrst = true →
    exec (.arrayCfgWrite be v) s = .next u ∧ exec (.suspectCfgWrite be v) s = .next u) ∧
  ∀ (s : State) (v : Word32), let u := s.opened
    u.pins.porst = false → u.pins.wrst = false →
    let free : Prop := u.ctl.state = .uninit ∧ u.lrt.entries = [] ∧ u.regions.valid = []
    let n := (v.extractLsb' 0 8).toNat
    (∀ z, free → ArraySize.ofCode (v.extractLsb' 0 3).toNat = some z →
      exec (.arrayCfgWrite 15 v) s = .next { u with aif := { u.aif with size := z } }) ∧
    (¬ free ∨ ArraySize.ofCode (v.extractLsb' 0 3).toNat = none → exec (.arrayCfgWrite 15 v) s = .next u) ∧
    (n = 0 ∨ 15 < n → exec (.suspectCfgWrite 15 v) s = .next u) ∧
    (1 ≤ n → n ≤ 15 →
      let clamped := u.suspects.entries.map (fun e => { e with waiting := false, count := min e.count n })
      exec (.suspectCfgWrite 15 v) s = .next (nominateLines
        ((clamped.filter (fun e => decide (e.count = n))).map (fun e => e.line))
        { u with suspects := { entries := clamped, threshold := n } }))

/-- A write to PATROL_CFG sets the interval unless it gives 0 and the mode unless it names none; a change of mode acts by
the unit's state during background activity, and waits for the end of a targeted scrub (R106, R115). That a timer started
by the write takes the interval just written, and that naming the mode in effect takes no action, is the model's reading
(log entry 26). A write without all four byte enables or during a reset is ignored (R184, R198). -/
def Obligations.PatrolCfgWrites : Prop :=
  (∀ (s : State) (v : Word32) (be : Enables), let u := s.opened
    be ≠ 15 ∨ u.pins.porst = true ∨ u.pins.wrst = true → exec (.patrolCfgWrite be v) s = .next u) ∧
  ∀ (s : State) (v : Word32), let u := s.opened
    u.pins.porst = false → u.pins.wrst = false →
    let t := (v.extractLsb' 16 12).toNat
    let interval := if t = 0 then u.patrol.interval else t
    let code := (v.extractLsb' 0 2).toNat
    let mode : PatrolMode := if code = 0 then .off else if code = 1 then .single
      else if code = 2 then .continuous else u.patrol.mode
    let p : PatrolUnit := { u.patrol with mode := mode, interval := interval }
    let sets : PatrolUnit → Prop := fun q => exec (.patrolCfgWrite 15 v) s = .next { u with patrol := q }
    (mode = u.patrol.mode ∨ u.patrol.activity = .scrub ∨ u.patrol.state = .inFlight → sets p) ∧
    (mode ≠ u.patrol.mode → u.patrol.activity = .background →
      (u.patrol.state = .off → mode ≠ .off →
        sets { p with state := .waiting, timer := some interval, candidate := none }) ∧
      (u.patrol.state = .off → mode = .off → sets p) ∧
      (u.patrol.state = .waiting → mode = .off → sets { p with state := .off, timer := none, candidate := none }) ∧
      (u.patrol.state = .waiting ∨ u.patrol.state = .issuing → mode ≠ .off → sets p) ∧
      (∀ c, u.patrol.state = .issuing → u.patrol.candidate = some c → mode = .off →
        exec (.patrolCfgWrite 15 v) s = .next { u with
          patrol := { p with state := .off, timer := none, candidate := none, cursor := c.line }
          arbiter := { u.arbiter with patrolWait := 0 } }))

/-- A write to IRQ_CAUSE clears the latched causes whose positions hold 1 (R137); one to IRQ_ENABLE sets all seven enables
(R138); one to CMD_STATUS clears REFUSED where its position holds 1 (R191); one to REC_POP removes the head record
(R132); one to a counter clears it (R197); each is ignored without all four byte enables or during a reset (R184, R198).
A counter's increment stops at its largest value and a latch sets its own cause alone (R136, R197). IRQ_N is low exactly
while a set cause is enabled outside reset (R138); a pin shows the state with every due step performed (log entry 23). -/
def Obligations.StatusWrites : Prop :=
  (∀ (s : State) (v : Word32) (be : Enables), let u := s.opened
    be ≠ 15 ∨ u.pins.porst = true ∨ u.pins.wrst = true →
    (∀ i ∈ [Instr.irqCauseWrite be v, .irqEnableWrite be v, .cmdStatusWrite be v, .recPop be v],
      exec i s = .next u) ∧ ∀ c, exec (.counterClear c be v) s = .next u) ∧
  (∀ (u : State) (c : Counter), u.count c = { u with counters := (u.count c).counters } ∧
    ∀ d, (u.count c).counters.get d =
      if d = c then (if u.counters.get c = BitVec.allOnes 32 then u.counters.get c else u.counters.get c + 1)
      else u.counters.get d) ∧
  (∀ (q : Interrupts) (c : Cause), q.with c = { q with latched := (q.with c).latched } ∧
    ∀ d, (q.with c).latched.get d = (q.latched.get d || decide (d = c))) ∧
  (∀ s : State, s.irqPin = s.settle.irqN ∧ ∀ p, s.readyPin p =
    decide ((s.settle.ports.get p).queue.length < 8 ∧ s.settle.pins.porst = false ∧ s.settle.pins.wrst = false)) ∧
  (∀ (s : State) (v : Word32), let u := s.opened
    u.pins.porst = false → u.pins.wrst = false →
    let bit : Cause → Nat := fun c => match c with
      | .major => 1 | .lost => 2 | .cmdDone => 3 | .halted => 4 | .sparesLow => 5 | .sweep => 6
    (∃ q : Latches, exec (.irqCauseWrite 15 v) s = .next { u with irq := { u.irq with latched := q } } ∧
      ∀ c, q.get c = (u.irq.latched.get c && !v.getLsbD (bit c))) ∧
    (∃ q : Latches, exec (.irqEnableWrite 15 v) s = .next { u with
        irq := { u.irq with enableRecord := v.getLsbD 0, enable := q } } ∧ ∀ c, q.get c = v.getLsbD (bit c)) ∧
    (exec (.cmdStatusWrite 15 v) s = .next { u with
      cmd := { u.cmd with refused := u.cmd.refused && !v.getLsbD 1 } }) ∧
    (exec (.recPop 15 v) s = .next { u with erq := { u.erq with records := u.erq.records.tail } }) ∧
    ∀ c, ∃ k : Counters, exec (.counterClear c 15 v) s = .next { u with counters := k } ∧
      ∀ d, k.get d = if d = c then 0 else u.counters.get d) ∧
  ∀ s : State, s.irqN = false ↔ s.pins.porst = false ∧ s.pins.wrst = false ∧
    ((s.erq.records ≠ [] ∧ s.irq.enableRecord = true) ∨
      ∃ c, s.irq.latched.get c = true ∧ s.irq.enable.get c = true)

/-- A register write always completes, and acts only with all four byte enables, outside reset and at a word the map names
as writable (R184, R198); POLICY, SPARE_CFG, the argument words and the staging words take the fields written (R29, R84,
R142, R185, R188); a word with a row of its own is written by that row, a counter by its clearing (R197), and each of the
twelve command rows is a write of its code to CMD_CODE (R189, R193; the model's reading, log entries 13 and 25). A read
gives every word of the map by the fields of 11.5, zero at a position that holds nothing, at an offset the map does not
name and during a reset (R184 to R186, R198), with every due step performed (log entry 23). -/
def Obligations.RegisterWindow : Prop :=
  let counters : List (BitVec 12 × Counter) := [(0x0C0, .corrected), (0x0C4, .uncorrectable), (0x0C8, .poison),
    (0x0CC, .poisonSeen), (0x0D0, .lostMinor), (0x0D4, .lostMajor), (0x0D8, .suspectEvict), (0x0DC, .suspectDrop),
    (0x0E0, .patrolLines), (0x0E4, .patrolSkipped), (0x0E8, .sweeps), (0x0EC, .retired), (0x0F0, .retireFailed),
    (0x0F4, .rtqFull)]
  let writable : List (BitVec 12) := [0x010, 0x014, 0x018, 0x01C, 0x024, 0x040, 0x044, 0x048, 0x04C, 0x050, 0x060, 0x064,
    0x068, 0x090, 0x0A0, 0x0A4] ++ counters.map (fun x => x.1)
  (∀ (s : State) (v : Word32), let u := s.opened
    let w : BitVec 12 → State → Prop := fun o t => exec (.registerWrite o 15 v) s = .next t
    let g := u.regions.stage
    (∀ (o : BitVec 12) (be : Enables), ∃ t, exec (.registerWrite o be v) s = .next t) ∧
    (∀ (o : BitVec 12) (be : Enables), be ≠ 15 ∨ u.pins.porst = true ∨ u.pins.wrst = true →
      exec (.registerWrite o be v) s = .next u) ∧
    (∀ o, o ∉ writable → w o u) ∧
    (u.pins.porst = false → u.pins.wrst = false →
      w 0x014 { u with policy := { writebackOnCorrect := v.getLsbD 0, retireOnUe := v.getLsbD 1,
                                   haltOnUe := v.getLsbD 2, poisonOnUe := v.getLsbD 3 } } ∧
      ((v.extractLsb' 0 8).toNat ≤ 127 →
        w 0x024 { u with pool := { u.pool with lowLevel := (v.extractLsb' 0 8).toNat } }) ∧
      (127 < (v.extractLsb' 0 8).toNat → w 0x024 u) ∧
      w 0x044 { u with cmd := { u.cmd with arg0 := v } } ∧
      w 0x048 { u with cmd := { u.cmd with arg1 := v } } ∧
      w 0x04C { u with cmd := { u.cmd with arg2 := v } } ∧
      w 0x060 { u with regions := { u.regions with stage := { g with base := (v.extractLsb' 0 24).toNat } } } ∧
      w 0x064 { u with regions := { u.regions with stage := { g with limit := (v.extractLsb' 0 24).toNat } } } ∧
      w 0x068 { u with regions := { u.regions with stage := { g with
        cls := if v.getLsbD 0 then .unchecked else .checked, writeProtect := v.getLsbD 1, patrol := v.getLsbD 2
        readMask := v.extractLsb' 8 4, writeMask := v.extractLsb' 12 4 } } }) ∧
    (∀ be : Enables,
      (∀ x ∈ [((0x010 : BitVec 12), Instr.arrayCfgWrite be v), (0x018, .suspectCfgWrite be v), (0x01C, .patrolCfgWrite be v),
          (0x050, .cmdStatusWrite be v), (0x090, .recPop be v), (0x0A0, .irqCauseWrite be v),
          (0x0A4, .irqEnableWrite be v)],
        exec (.registerWrite x.1 be v) s = exec x.2 s) ∧
      ∀ x ∈ counters, exec (.registerWrite x.1 be v) s = exec (.counterClear x.2 be v) s) ∧
    (∀ x ∈ [(v, Instr.commandRefused v), (v, .unknownCommand v), (0x1, .init), (0x2, .start), (0x3, .stop),
        (0x4, .setRegion), (0x5, .clearRegion), (0x6, .retire), (0x7, .release), (0x8, .loadRemap), (0x9, .markSpareBad),
        (0xA, .scrub), (0xB, .inject), (0xC, .clearSuspects)],
      exec (.registerWrite 0x040 15 x.1) s = exec x.2 s ∧
      (u.pins.porst = true ∨ u.pins.wrst = true → exec x.2 s = .next u))) ∧
  ∀ s : State, let v := s.settle
    let r := s.readWindow
    let num : Nat → Nat → Word32 := fun n lo => BitVec.ofNat 32 n <<< lo
    let bit : Bool → Nat → Word32 := fun b n => if b then num 1 n else 0
    let at_ : Nat → BitVec 12 := fun n => BitVec.ofNat 12 n
    let flags : Region → Word32 := fun g => bit (decide (g.cls = .unchecked)) 0 ||| bit g.writeProtect 1 |||
      bit g.patrol 2 ||| num g.readMask.toNat 8 ||| num g.writeMask.toNat 12
    let causes : Bool → Latches → Word32 := fun b l => bit b 0 ||| bit l.major 1 ||| bit l.lost 2 ||| bit l.cmdDone 3 |||
      bit l.halted 4 ||| bit l.sparesLow 5 ||| bit l.sweep 6
    let place : Loc → Word32 := fun l => match l with | .home => 0 | .spare n => num n 16 ||| num 1 23
    let named : BitVec 12 → Prop := fun o => o.toNat % 4 = 0 ∧
      (o ∈ writable ∨ o ∈ [0x000, 0x004, 0x008, 0x020, 0x028, 0x02C, 0x080, 0x084, 0x088, 0x08C, 0x094] ∨
        0x100 ≤ o.toNat ∧ o.toNat < 0x190 ∨ 0x200 ≤ o.toNat ∧ o.toNat < 0x2A0 ∨ 0x400 ≤ o.toNat ∧ o.toNat < 0xA00)
    (s.pins.porst = true ∨ s.pins.wrst = true → ∀ o, r o = 0) ∧
    (∀ o, ¬ named o → r o = 0) ∧
    (s.pins.porst = false → s.pins.wrst = false →
      r 0x000 = 0x00058001 ∧
      r 0x004 = num (match v.ctl.state with
        | .uninit => 0 | .initializing => 1 | .stopped => 2 | .running => 3 | .draining => 4 | .halted => 5) 0 |||
        num (match v.ctl.haltReason with | .none => 0 | .ueOnDemand => 1) 8 ∧
      r 0x008 = num v.ctl.initProgress 0 ∧
      r 0x010 = num (match v.aif.size with | .s20 => 0 | .s21 => 1 | .s22 => 2 | .s23 => 3 | .s24 => 4) 0 ∧
      r 0x014 = bit v.policy.writebackOnCorrect 0 ||| bit v.policy.retireOnUe 1 ||| bit v.policy.haltOnUe 2 |||
        bit v.policy.poisonOnUe 3 ∧
      r 0x018 = num v.suspects.threshold 0 ∧
      r 0x01C = num (match v.patrol.mode with | .off => 0 | .single => 1 | .continuous => 2) 0 |||
        num v.patrol.interval 16 ∧
      r 0x020 = num v.patrol.cursor 0 ∧
      r 0x024 = num v.pool.lowLevel 0 ∧
      r 0x028 = num (v.pool.spares.countP (fun x => x == .free)) 0 ||| num (v.pool.spares.countP (fun x => x == .held)) 8 |||
        num (v.pool.spares.countP (fun x => x == .bad)) 16 ∧
      r 0x02C = num v.lrt.gen.toNat 0 ∧
      r 0x040 = 0 ∧ r 0x044 = v.cmd.arg0 ∧ r 0x048 = v.cmd.arg1 ∧ r 0x04C = v.cmd.arg2 ∧
      r 0x050 = bit v.cmd.running.isSome 0 ||| bit v.cmd.refused 1 ||| num (match v.cmd.result with
        | .none => 0 | .done => 1 | .wrongState => 2 | .badArgument => 3 | .overlap => 4 | .failed => 5 | .noSpare => 6
        | .aborted => 7 | .queueFull => 8 | .alreadyPending => 9 | .notRemapped => 10 | .remapped => 11
        | .spareNotFree => 12 | .unknown => 13) 8 ∧
      r 0x060 = num v.regions.stage.base 0 ∧ r 0x064 = num v.regions.stage.limit 0 ∧ r 0x068 = flags v.regions.stage ∧
      r 0x090 = 0 ∧ r 0x094 = num v.erq.records.length 0 ∧
      r 0x0A0 = causes (!v.erq.records.isEmpty) v.irq.latched ∧ r 0x0A4 = causes v.irq.enableRecord v.irq.enable ∧
      (∀ x ∈ counters, r x.1 = v.counters.get x.2) ∧
      (v.erq.records = [] → ∀ o ∈ [0x080, 0x084, 0x088, 0x08C], r o = 0) ∧
      (∀ x rest, v.erq.records = x :: rest →
        r 0x080 = num x.seq.toNat 0 ||| num (match x.kind with
            | .corrected => 1 | .accessDenied => 2 | .sweepDone => 3 | .uncorrectable => 4 | .poisonHit => 5 | .retired => 6
            | .released => 7 | .retireFailed => 8 | .releaseFailed => 9 | .spareBad => 10 | .spareExhausted => 11
            | .halted => 12) 16 |||
          num (match x.source with
            | .port .p0 => 0 | .port .p1 => 1 | .port .p2 => 2 | .port .p3 => 3 | .patrol => 4 | .scrub => 5 | .copy => 6
            | .command => 7 | .controller => 8) 20 |||
          bit x.line.isSome 24 ||| bit x.place.isSome 25 ||| bit x.spare.isSome 26 ||| bit x.mask.isSome 27 |||
          bit x.repeats.isSome 28 ||| bit x.detail.isSome 29 ∧
        r 0x084 = num (x.line.getD 0) 0 ∧
        r 0x088 = num (x.mask.getD 0).toNat 0 ||| num (x.repeats.getD 0) 8 ||| place (x.place.getD .home) |||
          num (x.spare.getD 0) 24 ∧
        r 0x08C = num (match x.detail with
          | none => 0
          | some (.denied .unmapped) => 1
          | some (.denied .port) => 2
          | some (.denied .writeProtect) => 3
          | some (.poisonedFlag b) => b.toNat
          | some (.sweepNumber n) => n.toNat) 0) ∧
      (∀ k < 8,
        (∀ g, v.regions.entries[k]? = some (some g) →
          r (at_ (0x100 + 16 * k)) = 1 ∧ r (at_ (0x104 + 16 * k)) = num g.base 0 ∧
          r (at_ (0x108 + 16 * k)) = num g.limit 0 ∧ r (at_ (0x10C + 16 * k)) = flags g) ∧
        (v.regions.entries[k]? = some none → ∀ w < 4, r (at_ (0x100 + 16 * k + 4 * w)) = 0)) ∧
      (∀ x ∈ [((0x180 : BitVec 12), PortId.p0), (0x184, .p1), (0x188, .p2), (0x18C, .p3)],
        r x.1 = num (v.ports.get x.2).queue.length 0 ||| num (v.ports.get x.2).tags.length 8) ∧
      (∀ k < 16,
        (∀ e, v.suspects.entries[k]? = some e →
          r (at_ (0x200 + 8 * k)) = num e.line 0 ||| bit e.waiting 30 ||| num 1 31 ∧
          r (at_ (0x204 + 8 * k)) = num e.count 0 ||| num e.mask.toNat 8 ||| place e.place) ∧
        (v.suspects.entries[k]? = none → r (at_ (0x200 + 8 * k)) = 0 ∧ r (at_ (0x204 + 8 * k)) = 0)) ∧
      (∀ k < 8,
        (∀ i, v.rtq[k]? = some i →
          r (at_ (0x280 + 4 * k)) = num i.line 0 |||
            num (match i.origin with | .suspect => 0 | .uePolicy => 1 | .command => 2) 24 |||
            bit (decide (i.action = .release)) 29 ||| bit i.command 30 ||| num 1 31) ∧
        (v.rtq[k]? = none → r (at_ (0x280 + 4 * k)) = 0)) ∧
      (∀ k < 128,
        (∀ e, v.lrt.slots[k]? = some (some e) →
          let origin := num (match e.origin with | .suspect => 0 | .uePolicy => 1 | .command => 2 | .restore => 3) 24
          let words : Nat → Word32 → Prop := fun state x =>
            r (at_ (0x400 + 8 * k)) = num e.line 0 ||| num state 24 ||| num 1 31 ∧ r (at_ (0x404 + 8 * k)) = x ||| origin
          (∀ c m, e.state = .active c m → words 0 (num c 0 ||| num 1 7 ||| num m 16)) ∧
          (∀ t, e.state = .copying t → words 1 (num t 8 ||| num 1 15)) ∧
          (∀ c t m, e.state = .moving c t m →
            words 2 (num c 0 ||| num 1 7 ||| num t 8 ||| num 1 15 ||| num m 16)) ∧
          ∀ c m, e.state = .releasing c m → words 3 (num c 0 ||| num 1 7 ||| num m 16)) ∧
        (v.lrt.slots[k]? = some none → r (at_ (0x400 + 8 * k)) = 0 ∧ r (at_ (0x404 + 8 * k)) = 0)) ∧
      ∀ n < 128, ∀ x, v.pool.spares[n]? = some x →
        r (at_ (0x800 + 4 * n)) = num (match x with | .free => 0 | .held => 1 | .bad => 2) 0)

/-! ## The array -/

/-- A cell fault puts the named bits of one stored word in error and leaves every other bit, word and line as it was (R2,
R4, R6); that a bit already in error stays so and that a cell that does not exist faults is the model's reading (log
entry 9), and that undefined contents stay undefined its choice (log entry 8). A decoded read of stored contents finds
data words CLEAN, SINGLE or MULTI by none, one or two bits in error, and poison words POISON or MULTI; a word with three or
more that decodes as CLEAN or SINGLE does not return what was written; a raw read gives the stored bits as they stand (R5,
R6, R10; the form of stored contents and the reading of R6 for poison words are log entries 6 and 7). -/
def Obligations.ArrayCellFaults : Prop :=
  (∀ (s : State) (phys word : Nat) (bits : BitVec 72), let u := s.opened
    (u.aif.size.lines ≤ phys ∨ 8 ≤ word → exec (.arrayCellFault phys word bits) s = .fault .noSuchCell) ∧
    (phys < u.aif.size.lines → word < 8 →
      (u.aif.mem.get phys = none → exec (.arrayCellFault phys word bits) s = .next u) ∧
      ∀ l, u.aif.mem.get phys = some l → ∃ (t : State) (l' : StoredLine),
        exec (.arrayCellFault phys word bits) s = .next t ∧
        t = { u with aif := { u.aif with mem := t.aif.mem } } ∧ t.aif.mem.get phys = some l' ∧
        l'.written = l.written ∧
        (∀ w < 8, errWord l'.errs w = if w = word then errWord l.errs w ||| bits else errWord l.errs w) ∧
        ∀ q, q ≠ phys → t.aif.mem.get q = u.aif.mem.get q)) ∧
  ∀ (u : State) (phys : Nat) (l : StoredLine), u.aif.mem.get phys = some l →
    let r := u.decodedRead phys
    let errs : Nat → BitVec 72 := fun w => errWord l.errs w
    let one : Nat → Prop := fun w => ∃ b < 72, errs w = 1#72 <<< b
    let two : Nat → Prop := fun w => ∃ b < 72, ∃ c < b, errs w = 1#72 <<< b ||| 1#72 <<< c
    let more : Nat → Prop := fun w => ∃ b < 72, ∃ c < b, ∃ d < c,
      (errs w).getLsbD b = true ∧ (errs w).getLsbD c = true ∧ (errs w).getLsbD d = true
    let gives : Nat → WordOutcome → Word64 → Prop := fun w o x => r.outcomes[w]? = some o ∧ lineWord r.data w = x
    let heavy : Nat → Word64 → Word64 → Prop := fun w base stored => ∀ o x, gives w o x →
      (o = .clean ∨ o = .single → x ≠ base) ∧ (o ≠ .single → x = stored) ∧
      (o = .single → x = stored ∨ ∃ b < 64, x = stored ^^^ 1#64 <<< b)
    (∀ d, l.written = .data d → ∀ w < 8, let stored := lineWord d w ^^^ (errs w).setWidth 64
      (errs w = 0 → gives w .clean (lineWord d w)) ∧ (one w → gives w .single (lineWord d w)) ∧
      (two w → gives w .multi stored) ∧ (more w → heavy w (lineWord d w) stored) ∧
      lineWord (u.rawRead phys) w = stored) ∧
    (l.written = .poison → ∀ w < 8, let stored : Word64 := (errs w).setWidth 64
      (errs w = 0 → gives w .poison 0) ∧ (one w → gives w .multi stored) ∧
      (two w → gives w .multi stored) ∧ (more w → heavy w 0 stored) ∧
      lineWord (u.rawRead phys) w = stored) ∧
    (∀ d, l = { written := .data d, errs := 0 } →
      r.outcome = .clean ∧ r.data = d ∧ r.corrected = 0 ∧ r.errors = 0 ∧ u.rawRead phys = d) ∧
    (l = { written := .poison, errs := 0 } →
      r.outcome = .poisoned ∧ r.data = 0 ∧ r.corrected = 0 ∧ r.errors = 0xFF ∧ u.rawRead phys = 0)

/-- The first row of the table of R7 that applies gives the line outcome of a decoded read, and the two masks name the
words whose outcome was SINGLE, and MULTI or POISON; the read delivers the eight outcomes beside them. -/
def Obligations.LineOutcomeAndMasks : Prop :=
  ∀ ws : Nat → WordOutcome × Word64,
    let r := LineRead.ofWords ws
    let poisons := ((List.range 8).filter (fun w => decide ((ws w).1 = .poison))).length
    let bad : Prop := ∃ w < 8, (ws w).1 = .multi ∨ (ws w).1 = .poison
    let single : Prop := ∃ w < 8, (ws w).1 = .single
    (5 ≤ poisons → r.outcome = .poisoned) ∧
    (¬ 5 ≤ poisons → bad → r.outcome = .uncorrectable) ∧
    (¬ 5 ≤ poisons → ¬ bad → single → r.outcome = .corrected) ∧
    (¬ 5 ≤ poisons → ¬ bad → ¬ single → r.outcome = .clean) ∧
    (∀ w < 8, r.corrected.getLsbD w = decide ((ws w).1 = .single)) ∧
    (∀ w < 8, r.errors.getLsbD w = decide ((ws w).1 = .multi ∨ (ws w).1 = .poison)) ∧
    (∀ w < 8, lineWord r.data w = (ws w).2) ∧
    r.outcomes.length = 8 ∧ ∀ w < 8, r.outcomes[w]? = some (ws w).1

/-! ## Invariants -/

/-- Every step keeps the canonical form of the array's contents. -/
def Obligations.EveryStepKeepsMemoryCanonical : Prop :=
  ∀ s t : State, s.aif.mem.wf = true → step s = .next t → t.aif.mem.wf = true

/-- Every step keeps every collection within its size (R64, R18, R25, R90, R100, R125, R140, R154). -/
def Obligations.EveryStepKeepsSizes : Prop :=
  ∀ s t : State, s.fits → step s = .next t → t.fits

/-- Every step keeps the regions apart and below LOGICAL_LINES (R141). -/
def Obligations.EveryStepKeepsRegionsApart : Prop :=
  ∀ s t : State, s.regionsApart → step s = .next t → t.regionsApart

/-- Every step keeps the Suspect List's entries one to a line and their counts between 1 and the threshold (R90). -/
def Obligations.EveryStepKeepsSuspectsBounded : Prop :=
  ∀ s t : State, s.suspectsBounded → step s = .next t → t.suspectsBounded

/-- Every step keeps the remap table, the spares and the Copy Unit in agreement (R19, R20, R25). -/
def Obligations.EveryStepKeepsRemapSound : Prop :=
  ∀ s t : State, s.remapSound → step s = .next t → t.remapSound

/-- Every step keeps each port's outstanding tags those of its unanswered requests (R154, R156). -/
def Obligations.EveryStepKeepsTagsHeld : Prop :=
  ∀ s t : State, s.olt.slots.length = 8 → s.tagsHeld → step s = .next t → t.tagsHeld

/-- Every step keeps the Open-Line Table in grant order with one operation for each entry at the array (R65 to R67). -/
def Obligations.EveryStepKeepsOpenSound : Prop :=
  ∀ s t : State, s.openSound → step s = .next t → t.openSound

/-- Every step keeps the command slot and the Patrol Unit in agreement with the work they stand for, together with the
remap table (R20, R105, R187, R189). -/
def Obligations.EveryStepKeepsControlSound : Prop :=
  ∀ s t : State, s.olt.slots.length = 8 → s.controlSound → step s = .next t → t.controlSound

/-- The state after reset has every invariant, and nothing is due in it. -/
def Obligations.ResetHasEveryInvariant : Prop :=
  State.reset.aif.mem.wf = true ∧ State.reset.fits ∧ State.reset.regionsApart ∧ State.reset.suspectsBounded ∧
  State.reset.tagsHeld ∧ State.reset.openSound ∧ State.reset.controlSound ∧ State.reset.settled = true

end Statements
end

