-- ==== Sys2Proof/Laws/State.lean ====
section
/-!
SUPPORT. One lemma per field per update of State, true by rfl.
-/

namespace Sys2Proof.Machine

@[simp] theorem State.setPins_pins (s : State) v : (s.setPins v).pins = v := rfl
@[simp] theorem State.setPins_aif (s : State) v : (s.setPins v).aif = s.aif := rfl
@[simp] theorem State.setPins_lrt (s : State) v : (s.setPins v).lrt = s.lrt := rfl
@[simp] theorem State.setPins_pool (s : State) v : (s.setPins v).pool = s.pool := rfl
@[simp] theorem State.setPins_copy (s : State) v : (s.setPins v).copy = s.copy := rfl
@[simp] theorem State.setPins_olt (s : State) v : (s.setPins v).olt = s.olt := rfl
@[simp] theorem State.setPins_policy (s : State) v : (s.setPins v).policy = s.policy := rfl
@[simp] theorem State.setPins_suspects (s : State) v : (s.setPins v).suspects = s.suspects := rfl
@[simp] theorem State.setPins_rtq (s : State) v : (s.setPins v).rtq = s.rtq := rfl
@[simp] theorem State.setPins_patrol (s : State) v : (s.setPins v).patrol = s.patrol := rfl
@[simp] theorem State.setPins_erq (s : State) v : (s.setPins v).erq = s.erq := rfl
@[simp] theorem State.setPins_irq (s : State) v : (s.setPins v).irq = s.irq := rfl
@[simp] theorem State.setPins_regions (s : State) v : (s.setPins v).regions = s.regions := rfl
@[simp] theorem State.setPins_ports (s : State) v : (s.setPins v).ports = s.ports := rfl
@[simp] theorem State.setPins_arbiter (s : State) v : (s.setPins v).arbiter = s.arbiter := rfl
@[simp] theorem State.setPins_ctl (s : State) v : (s.setPins v).ctl = s.ctl := rfl
@[simp] theorem State.setPins_cmd (s : State) v : (s.setPins v).cmd = s.cmd := rfl
@[simp] theorem State.setPins_counters (s : State) v : (s.setPins v).counters = s.counters := rfl
@[simp] theorem State.setPins_responses (s : State) v : (s.setPins v).responses = s.responses := rfl
@[simp] theorem State.setPins_freeReads (s : State) v : (s.setPins v).freeReads = s.freeReads := rfl
@[simp] theorem State.setPins_pending (s : State) v : (s.setPins v).pending = s.pending := rfl

@[simp] theorem State.setAif_pins (s : State) v : (s.setAif v).pins = s.pins := rfl
@[simp] theorem State.setAif_aif (s : State) v : (s.setAif v).aif = v := rfl
@[simp] theorem State.setAif_lrt (s : State) v : (s.setAif v).lrt = s.lrt := rfl
@[simp] theorem State.setAif_pool (s : State) v : (s.setAif v).pool = s.pool := rfl
@[simp] theorem State.setAif_copy (s : State) v : (s.setAif v).copy = s.copy := rfl
@[simp] theorem State.setAif_olt (s : State) v : (s.setAif v).olt = s.olt := rfl
@[simp] theorem State.setAif_policy (s : State) v : (s.setAif v).policy = s.policy := rfl
@[simp] theorem State.setAif_suspects (s : State) v : (s.setAif v).suspects = s.suspects := rfl
@[simp] theorem State.setAif_rtq (s : State) v : (s.setAif v).rtq = s.rtq := rfl
@[simp] theorem State.setAif_patrol (s : State) v : (s.setAif v).patrol = s.patrol := rfl
@[simp] theorem State.setAif_erq (s : State) v : (s.setAif v).erq = s.erq := rfl
@[simp] theorem State.setAif_irq (s : State) v : (s.setAif v).irq = s.irq := rfl
@[simp] theorem State.setAif_regions (s : State) v : (s.setAif v).regions = s.regions := rfl
@[simp] theorem State.setAif_ports (s : State) v : (s.setAif v).ports = s.ports := rfl
@[simp] theorem State.setAif_arbiter (s : State) v : (s.setAif v).arbiter = s.arbiter := rfl
@[simp] theorem State.setAif_ctl (s : State) v : (s.setAif v).ctl = s.ctl := rfl
@[simp] theorem State.setAif_cmd (s : State) v : (s.setAif v).cmd = s.cmd := rfl
@[simp] theorem State.setAif_counters (s : State) v : (s.setAif v).counters = s.counters := rfl
@[simp] theorem State.setAif_responses (s : State) v : (s.setAif v).responses = s.responses := rfl
@[simp] theorem State.setAif_freeReads (s : State) v : (s.setAif v).freeReads = s.freeReads := rfl
@[simp] theorem State.setAif_pending (s : State) v : (s.setAif v).pending = s.pending := rfl

@[simp] theorem State.setLrt_pins (s : State) v : (s.setLrt v).pins = s.pins := rfl
@[simp] theorem State.setLrt_aif (s : State) v : (s.setLrt v).aif = s.aif := rfl
@[simp] theorem State.setLrt_lrt (s : State) v : (s.setLrt v).lrt = v := rfl
@[simp] theorem State.setLrt_pool (s : State) v : (s.setLrt v).pool = s.pool := rfl
@[simp] theorem State.setLrt_copy (s : State) v : (s.setLrt v).copy = s.copy := rfl
@[simp] theorem State.setLrt_olt (s : State) v : (s.setLrt v).olt = s.olt := rfl
@[simp] theorem State.setLrt_policy (s : State) v : (s.setLrt v).policy = s.policy := rfl
@[simp] theorem State.setLrt_suspects (s : State) v : (s.setLrt v).suspects = s.suspects := rfl
@[simp] theorem State.setLrt_rtq (s : State) v : (s.setLrt v).rtq = s.rtq := rfl
@[simp] theorem State.setLrt_patrol (s : State) v : (s.setLrt v).patrol = s.patrol := rfl
@[simp] theorem State.setLrt_erq (s : State) v : (s.setLrt v).erq = s.erq := rfl
@[simp] theorem State.setLrt_irq (s : State) v : (s.setLrt v).irq = s.irq := rfl
@[simp] theorem State.setLrt_regions (s : State) v : (s.setLrt v).regions = s.regions := rfl
@[simp] theorem State.setLrt_ports (s : State) v : (s.setLrt v).ports = s.ports := rfl
@[simp] theorem State.setLrt_arbiter (s : State) v : (s.setLrt v).arbiter = s.arbiter := rfl
@[simp] theorem State.setLrt_ctl (s : State) v : (s.setLrt v).ctl = s.ctl := rfl
@[simp] theorem State.setLrt_cmd (s : State) v : (s.setLrt v).cmd = s.cmd := rfl
@[simp] theorem State.setLrt_counters (s : State) v : (s.setLrt v).counters = s.counters := rfl
@[simp] theorem State.setLrt_responses (s : State) v : (s.setLrt v).responses = s.responses := rfl
@[simp] theorem State.setLrt_freeReads (s : State) v : (s.setLrt v).freeReads = s.freeReads := rfl
@[simp] theorem State.setLrt_pending (s : State) v : (s.setLrt v).pending = s.pending := rfl

@[simp] theorem State.setPool_pins (s : State) v : (s.setPool v).pins = s.pins := rfl
@[simp] theorem State.setPool_aif (s : State) v : (s.setPool v).aif = s.aif := rfl
@[simp] theorem State.setPool_lrt (s : State) v : (s.setPool v).lrt = s.lrt := rfl
@[simp] theorem State.setPool_pool (s : State) v : (s.setPool v).pool = v := rfl
@[simp] theorem State.setPool_copy (s : State) v : (s.setPool v).copy = s.copy := rfl
@[simp] theorem State.setPool_olt (s : State) v : (s.setPool v).olt = s.olt := rfl
@[simp] theorem State.setPool_policy (s : State) v : (s.setPool v).policy = s.policy := rfl
@[simp] theorem State.setPool_suspects (s : State) v : (s.setPool v).suspects = s.suspects := rfl
@[simp] theorem State.setPool_rtq (s : State) v : (s.setPool v).rtq = s.rtq := rfl
@[simp] theorem State.setPool_patrol (s : State) v : (s.setPool v).patrol = s.patrol := rfl
@[simp] theorem State.setPool_erq (s : State) v : (s.setPool v).erq = s.erq := rfl
@[simp] theorem State.setPool_irq (s : State) v : (s.setPool v).irq = s.irq := rfl
@[simp] theorem State.setPool_regions (s : State) v : (s.setPool v).regions = s.regions := rfl
@[simp] theorem State.setPool_ports (s : State) v : (s.setPool v).ports = s.ports := rfl
@[simp] theorem State.setPool_arbiter (s : State) v : (s.setPool v).arbiter = s.arbiter := rfl
@[simp] theorem State.setPool_ctl (s : State) v : (s.setPool v).ctl = s.ctl := rfl
@[simp] theorem State.setPool_cmd (s : State) v : (s.setPool v).cmd = s.cmd := rfl
@[simp] theorem State.setPool_counters (s : State) v : (s.setPool v).counters = s.counters := rfl
@[simp] theorem State.setPool_responses (s : State) v : (s.setPool v).responses = s.responses := rfl
@[simp] theorem State.setPool_freeReads (s : State) v : (s.setPool v).freeReads = s.freeReads := rfl
@[simp] theorem State.setPool_pending (s : State) v : (s.setPool v).pending = s.pending := rfl

@[simp] theorem State.setCopy_pins (s : State) v : (s.setCopy v).pins = s.pins := rfl
@[simp] theorem State.setCopy_aif (s : State) v : (s.setCopy v).aif = s.aif := rfl
@[simp] theorem State.setCopy_lrt (s : State) v : (s.setCopy v).lrt = s.lrt := rfl
@[simp] theorem State.setCopy_pool (s : State) v : (s.setCopy v).pool = s.pool := rfl
@[simp] theorem State.setCopy_copy (s : State) v : (s.setCopy v).copy = v := rfl
@[simp] theorem State.setCopy_olt (s : State) v : (s.setCopy v).olt = s.olt := rfl
@[simp] theorem State.setCopy_policy (s : State) v : (s.setCopy v).policy = s.policy := rfl
@[simp] theorem State.setCopy_suspects (s : State) v : (s.setCopy v).suspects = s.suspects := rfl
@[simp] theorem State.setCopy_rtq (s : State) v : (s.setCopy v).rtq = s.rtq := rfl
@[simp] theorem State.setCopy_patrol (s : State) v : (s.setCopy v).patrol = s.patrol := rfl
@[simp] theorem State.setCopy_erq (s : State) v : (s.setCopy v).erq = s.erq := rfl
@[simp] theorem State.setCopy_irq (s : State) v : (s.setCopy v).irq = s.irq := rfl
@[simp] theorem State.setCopy_regions (s : State) v : (s.setCopy v).regions = s.regions := rfl
@[simp] theorem State.setCopy_ports (s : State) v : (s.setCopy v).ports = s.ports := rfl
@[simp] theorem State.setCopy_arbiter (s : State) v : (s.setCopy v).arbiter = s.arbiter := rfl
@[simp] theorem State.setCopy_ctl (s : State) v : (s.setCopy v).ctl = s.ctl := rfl
@[simp] theorem State.setCopy_cmd (s : State) v : (s.setCopy v).cmd = s.cmd := rfl
@[simp] theorem State.setCopy_counters (s : State) v : (s.setCopy v).counters = s.counters := rfl
@[simp] theorem State.setCopy_responses (s : State) v : (s.setCopy v).responses = s.responses := rfl
@[simp] theorem State.setCopy_freeReads (s : State) v : (s.setCopy v).freeReads = s.freeReads := rfl
@[simp] theorem State.setCopy_pending (s : State) v : (s.setCopy v).pending = s.pending := rfl

@[simp] theorem State.setOlt_pins (s : State) v : (s.setOlt v).pins = s.pins := rfl
@[simp] theorem State.setOlt_aif (s : State) v : (s.setOlt v).aif = s.aif := rfl
@[simp] theorem State.setOlt_lrt (s : State) v : (s.setOlt v).lrt = s.lrt := rfl
@[simp] theorem State.setOlt_pool (s : State) v : (s.setOlt v).pool = s.pool := rfl
@[simp] theorem State.setOlt_copy (s : State) v : (s.setOlt v).copy = s.copy := rfl
@[simp] theorem State.setOlt_olt (s : State) v : (s.setOlt v).olt = v := rfl
@[simp] theorem State.setOlt_policy (s : State) v : (s.setOlt v).policy = s.policy := rfl
@[simp] theorem State.setOlt_suspects (s : State) v : (s.setOlt v).suspects = s.suspects := rfl
@[simp] theorem State.setOlt_rtq (s : State) v : (s.setOlt v).rtq = s.rtq := rfl
@[simp] theorem State.setOlt_patrol (s : State) v : (s.setOlt v).patrol = s.patrol := rfl
@[simp] theorem State.setOlt_erq (s : State) v : (s.setOlt v).erq = s.erq := rfl
@[simp] theorem State.setOlt_irq (s : State) v : (s.setOlt v).irq = s.irq := rfl
@[simp] theorem State.setOlt_regions (s : State) v : (s.setOlt v).regions = s.regions := rfl
@[simp] theorem State.setOlt_ports (s : State) v : (s.setOlt v).ports = s.ports := rfl
@[simp] theorem State.setOlt_arbiter (s : State) v : (s.setOlt v).arbiter = s.arbiter := rfl
@[simp] theorem State.setOlt_ctl (s : State) v : (s.setOlt v).ctl = s.ctl := rfl
@[simp] theorem State.setOlt_cmd (s : State) v : (s.setOlt v).cmd = s.cmd := rfl
@[simp] theorem State.setOlt_counters (s : State) v : (s.setOlt v).counters = s.counters := rfl
@[simp] theorem State.setOlt_responses (s : State) v : (s.setOlt v).responses = s.responses := rfl
@[simp] theorem State.setOlt_freeReads (s : State) v : (s.setOlt v).freeReads = s.freeReads := rfl
@[simp] theorem State.setOlt_pending (s : State) v : (s.setOlt v).pending = s.pending := rfl

@[simp] theorem State.setPolicy_pins (s : State) v : (s.setPolicy v).pins = s.pins := rfl
@[simp] theorem State.setPolicy_aif (s : State) v : (s.setPolicy v).aif = s.aif := rfl
@[simp] theorem State.setPolicy_lrt (s : State) v : (s.setPolicy v).lrt = s.lrt := rfl
@[simp] theorem State.setPolicy_pool (s : State) v : (s.setPolicy v).pool = s.pool := rfl
@[simp] theorem State.setPolicy_copy (s : State) v : (s.setPolicy v).copy = s.copy := rfl
@[simp] theorem State.setPolicy_olt (s : State) v : (s.setPolicy v).olt = s.olt := rfl
@[simp] theorem State.setPolicy_policy (s : State) v : (s.setPolicy v).policy = v := rfl
@[simp] theorem State.setPolicy_suspects (s : State) v : (s.setPolicy v).suspects = s.suspects := rfl
@[simp] theorem State.setPolicy_rtq (s : State) v : (s.setPolicy v).rtq = s.rtq := rfl
@[simp] theorem State.setPolicy_patrol (s : State) v : (s.setPolicy v).patrol = s.patrol := rfl
@[simp] theorem State.setPolicy_erq (s : State) v : (s.setPolicy v).erq = s.erq := rfl
@[simp] theorem State.setPolicy_irq (s : State) v : (s.setPolicy v).irq = s.irq := rfl
@[simp] theorem State.setPolicy_regions (s : State) v : (s.setPolicy v).regions = s.regions := rfl
@[simp] theorem State.setPolicy_ports (s : State) v : (s.setPolicy v).ports = s.ports := rfl
@[simp] theorem State.setPolicy_arbiter (s : State) v : (s.setPolicy v).arbiter = s.arbiter := rfl
@[simp] theorem State.setPolicy_ctl (s : State) v : (s.setPolicy v).ctl = s.ctl := rfl
@[simp] theorem State.setPolicy_cmd (s : State) v : (s.setPolicy v).cmd = s.cmd := rfl
@[simp] theorem State.setPolicy_counters (s : State) v : (s.setPolicy v).counters = s.counters := rfl
@[simp] theorem State.setPolicy_responses (s : State) v : (s.setPolicy v).responses = s.responses := rfl
@[simp] theorem State.setPolicy_freeReads (s : State) v : (s.setPolicy v).freeReads = s.freeReads := rfl
@[simp] theorem State.setPolicy_pending (s : State) v : (s.setPolicy v).pending = s.pending := rfl

@[simp] theorem State.setSuspects_pins (s : State) v : (s.setSuspects v).pins = s.pins := rfl
@[simp] theorem State.setSuspects_aif (s : State) v : (s.setSuspects v).aif = s.aif := rfl
@[simp] theorem State.setSuspects_lrt (s : State) v : (s.setSuspects v).lrt = s.lrt := rfl
@[simp] theorem State.setSuspects_pool (s : State) v : (s.setSuspects v).pool = s.pool := rfl
@[simp] theorem State.setSuspects_copy (s : State) v : (s.setSuspects v).copy = s.copy := rfl
@[simp] theorem State.setSuspects_olt (s : State) v : (s.setSuspects v).olt = s.olt := rfl
@[simp] theorem State.setSuspects_policy (s : State) v : (s.setSuspects v).policy = s.policy := rfl
@[simp] theorem State.setSuspects_suspects (s : State) v : (s.setSuspects v).suspects = v := rfl
@[simp] theorem State.setSuspects_rtq (s : State) v : (s.setSuspects v).rtq = s.rtq := rfl
@[simp] theorem State.setSuspects_patrol (s : State) v : (s.setSuspects v).patrol = s.patrol := rfl
@[simp] theorem State.setSuspects_erq (s : State) v : (s.setSuspects v).erq = s.erq := rfl
@[simp] theorem State.setSuspects_irq (s : State) v : (s.setSuspects v).irq = s.irq := rfl
@[simp] theorem State.setSuspects_regions (s : State) v : (s.setSuspects v).regions = s.regions := rfl
@[simp] theorem State.setSuspects_ports (s : State) v : (s.setSuspects v).ports = s.ports := rfl
@[simp] theorem State.setSuspects_arbiter (s : State) v : (s.setSuspects v).arbiter = s.arbiter := rfl
@[simp] theorem State.setSuspects_ctl (s : State) v : (s.setSuspects v).ctl = s.ctl := rfl
@[simp] theorem State.setSuspects_cmd (s : State) v : (s.setSuspects v).cmd = s.cmd := rfl
@[simp] theorem State.setSuspects_counters (s : State) v : (s.setSuspects v).counters = s.counters := rfl
@[simp] theorem State.setSuspects_responses (s : State) v : (s.setSuspects v).responses = s.responses := rfl
@[simp] theorem State.setSuspects_freeReads (s : State) v : (s.setSuspects v).freeReads = s.freeReads := rfl
@[simp] theorem State.setSuspects_pending (s : State) v : (s.setSuspects v).pending = s.pending := rfl

@[simp] theorem State.setRtq_pins (s : State) v : (s.setRtq v).pins = s.pins := rfl
@[simp] theorem State.setRtq_aif (s : State) v : (s.setRtq v).aif = s.aif := rfl
@[simp] theorem State.setRtq_lrt (s : State) v : (s.setRtq v).lrt = s.lrt := rfl
@[simp] theorem State.setRtq_pool (s : State) v : (s.setRtq v).pool = s.pool := rfl
@[simp] theorem State.setRtq_copy (s : State) v : (s.setRtq v).copy = s.copy := rfl
@[simp] theorem State.setRtq_olt (s : State) v : (s.setRtq v).olt = s.olt := rfl
@[simp] theorem State.setRtq_policy (s : State) v : (s.setRtq v).policy = s.policy := rfl
@[simp] theorem State.setRtq_suspects (s : State) v : (s.setRtq v).suspects = s.suspects := rfl
@[simp] theorem State.setRtq_rtq (s : State) v : (s.setRtq v).rtq = v := rfl
@[simp] theorem State.setRtq_patrol (s : State) v : (s.setRtq v).patrol = s.patrol := rfl
@[simp] theorem State.setRtq_erq (s : State) v : (s.setRtq v).erq = s.erq := rfl
@[simp] theorem State.setRtq_irq (s : State) v : (s.setRtq v).irq = s.irq := rfl
@[simp] theorem State.setRtq_regions (s : State) v : (s.setRtq v).regions = s.regions := rfl
@[simp] theorem State.setRtq_ports (s : State) v : (s.setRtq v).ports = s.ports := rfl
@[simp] theorem State.setRtq_arbiter (s : State) v : (s.setRtq v).arbiter = s.arbiter := rfl
@[simp] theorem State.setRtq_ctl (s : State) v : (s.setRtq v).ctl = s.ctl := rfl
@[simp] theorem State.setRtq_cmd (s : State) v : (s.setRtq v).cmd = s.cmd := rfl
@[simp] theorem State.setRtq_counters (s : State) v : (s.setRtq v).counters = s.counters := rfl
@[simp] theorem State.setRtq_responses (s : State) v : (s.setRtq v).responses = s.responses := rfl
@[simp] theorem State.setRtq_freeReads (s : State) v : (s.setRtq v).freeReads = s.freeReads := rfl
@[simp] theorem State.setRtq_pending (s : State) v : (s.setRtq v).pending = s.pending := rfl

@[simp] theorem State.setPatrol_pins (s : State) v : (s.setPatrol v).pins = s.pins := rfl
@[simp] theorem State.setPatrol_aif (s : State) v : (s.setPatrol v).aif = s.aif := rfl
@[simp] theorem State.setPatrol_lrt (s : State) v : (s.setPatrol v).lrt = s.lrt := rfl
@[simp] theorem State.setPatrol_pool (s : State) v : (s.setPatrol v).pool = s.pool := rfl
@[simp] theorem State.setPatrol_copy (s : State) v : (s.setPatrol v).copy = s.copy := rfl
@[simp] theorem State.setPatrol_olt (s : State) v : (s.setPatrol v).olt = s.olt := rfl
@[simp] theorem State.setPatrol_policy (s : State) v : (s.setPatrol v).policy = s.policy := rfl
@[simp] theorem State.setPatrol_suspects (s : State) v : (s.setPatrol v).suspects = s.suspects := rfl
@[simp] theorem State.setPatrol_rtq (s : State) v : (s.setPatrol v).rtq = s.rtq := rfl
@[simp] theorem State.setPatrol_patrol (s : State) v : (s.setPatrol v).patrol = v := rfl
@[simp] theorem State.setPatrol_erq (s : State) v : (s.setPatrol v).erq = s.erq := rfl
@[simp] theorem State.setPatrol_irq (s : State) v : (s.setPatrol v).irq = s.irq := rfl
@[simp] theorem State.setPatrol_regions (s : State) v : (s.setPatrol v).regions = s.regions := rfl
@[simp] theorem State.setPatrol_ports (s : State) v : (s.setPatrol v).ports = s.ports := rfl
@[simp] theorem State.setPatrol_arbiter (s : State) v : (s.setPatrol v).arbiter = s.arbiter := rfl
@[simp] theorem State.setPatrol_ctl (s : State) v : (s.setPatrol v).ctl = s.ctl := rfl
@[simp] theorem State.setPatrol_cmd (s : State) v : (s.setPatrol v).cmd = s.cmd := rfl
@[simp] theorem State.setPatrol_counters (s : State) v : (s.setPatrol v).counters = s.counters := rfl
@[simp] theorem State.setPatrol_responses (s : State) v : (s.setPatrol v).responses = s.responses := rfl
@[simp] theorem State.setPatrol_freeReads (s : State) v : (s.setPatrol v).freeReads = s.freeReads := rfl
@[simp] theorem State.setPatrol_pending (s : State) v : (s.setPatrol v).pending = s.pending := rfl

@[simp] theorem State.setErq_pins (s : State) v : (s.setErq v).pins = s.pins := rfl
@[simp] theorem State.setErq_aif (s : State) v : (s.setErq v).aif = s.aif := rfl
@[simp] theorem State.setErq_lrt (s : State) v : (s.setErq v).lrt = s.lrt := rfl
@[simp] theorem State.setErq_pool (s : State) v : (s.setErq v).pool = s.pool := rfl
@[simp] theorem State.setErq_copy (s : State) v : (s.setErq v).copy = s.copy := rfl
@[simp] theorem State.setErq_olt (s : State) v : (s.setErq v).olt = s.olt := rfl
@[simp] theorem State.setErq_policy (s : State) v : (s.setErq v).policy = s.policy := rfl
@[simp] theorem State.setErq_suspects (s : State) v : (s.setErq v).suspects = s.suspects := rfl
@[simp] theorem State.setErq_rtq (s : State) v : (s.setErq v).rtq = s.rtq := rfl
@[simp] theorem State.setErq_patrol (s : State) v : (s.setErq v).patrol = s.patrol := rfl
@[simp] theorem State.setErq_erq (s : State) v : (s.setErq v).erq = v := rfl
@[simp] theorem State.setErq_irq (s : State) v : (s.setErq v).irq = s.irq := rfl
@[simp] theorem State.setErq_regions (s : State) v : (s.setErq v).regions = s.regions := rfl
@[simp] theorem State.setErq_ports (s : State) v : (s.setErq v).ports = s.ports := rfl
@[simp] theorem State.setErq_arbiter (s : State) v : (s.setErq v).arbiter = s.arbiter := rfl
@[simp] theorem State.setErq_ctl (s : State) v : (s.setErq v).ctl = s.ctl := rfl
@[simp] theorem State.setErq_cmd (s : State) v : (s.setErq v).cmd = s.cmd := rfl
@[simp] theorem State.setErq_counters (s : State) v : (s.setErq v).counters = s.counters := rfl
@[simp] theorem State.setErq_responses (s : State) v : (s.setErq v).responses = s.responses := rfl
@[simp] theorem State.setErq_freeReads (s : State) v : (s.setErq v).freeReads = s.freeReads := rfl
@[simp] theorem State.setErq_pending (s : State) v : (s.setErq v).pending = s.pending := rfl

@[simp] theorem State.setIrq_pins (s : State) v : (s.setIrq v).pins = s.pins := rfl
@[simp] theorem State.setIrq_aif (s : State) v : (s.setIrq v).aif = s.aif := rfl
@[simp] theorem State.setIrq_lrt (s : State) v : (s.setIrq v).lrt = s.lrt := rfl
@[simp] theorem State.setIrq_pool (s : State) v : (s.setIrq v).pool = s.pool := rfl
@[simp] theorem State.setIrq_copy (s : State) v : (s.setIrq v).copy = s.copy := rfl
@[simp] theorem State.setIrq_olt (s : State) v : (s.setIrq v).olt = s.olt := rfl
@[simp] theorem State.setIrq_policy (s : State) v : (s.setIrq v).policy = s.policy := rfl
@[simp] theorem State.setIrq_suspects (s : State) v : (s.setIrq v).suspects = s.suspects := rfl
@[simp] theorem State.setIrq_rtq (s : State) v : (s.setIrq v).rtq = s.rtq := rfl
@[simp] theorem State.setIrq_patrol (s : State) v : (s.setIrq v).patrol = s.patrol := rfl
@[simp] theorem State.setIrq_erq (s : State) v : (s.setIrq v).erq = s.erq := rfl
@[simp] theorem State.setIrq_irq (s : State) v : (s.setIrq v).irq = v := rfl
@[simp] theorem State.setIrq_regions (s : State) v : (s.setIrq v).regions = s.regions := rfl
@[simp] theorem State.setIrq_ports (s : State) v : (s.setIrq v).ports = s.ports := rfl
@[simp] theorem State.setIrq_arbiter (s : State) v : (s.setIrq v).arbiter = s.arbiter := rfl
@[simp] theorem State.setIrq_ctl (s : State) v : (s.setIrq v).ctl = s.ctl := rfl
@[simp] theorem State.setIrq_cmd (s : State) v : (s.setIrq v).cmd = s.cmd := rfl
@[simp] theorem State.setIrq_counters (s : State) v : (s.setIrq v).counters = s.counters := rfl
@[simp] theorem State.setIrq_responses (s : State) v : (s.setIrq v).responses = s.responses := rfl
@[simp] theorem State.setIrq_freeReads (s : State) v : (s.setIrq v).freeReads = s.freeReads := rfl
@[simp] theorem State.setIrq_pending (s : State) v : (s.setIrq v).pending = s.pending := rfl

@[simp] theorem State.setRegions_pins (s : State) v : (s.setRegions v).pins = s.pins := rfl
@[simp] theorem State.setRegions_aif (s : State) v : (s.setRegions v).aif = s.aif := rfl
@[simp] theorem State.setRegions_lrt (s : State) v : (s.setRegions v).lrt = s.lrt := rfl
@[simp] theorem State.setRegions_pool (s : State) v : (s.setRegions v).pool = s.pool := rfl
@[simp] theorem State.setRegions_copy (s : State) v : (s.setRegions v).copy = s.copy := rfl
@[simp] theorem State.setRegions_olt (s : State) v : (s.setRegions v).olt = s.olt := rfl
@[simp] theorem State.setRegions_policy (s : State) v : (s.setRegions v).policy = s.policy := rfl
@[simp] theorem State.setRegions_suspects (s : State) v : (s.setRegions v).suspects = s.suspects := rfl
@[simp] theorem State.setRegions_rtq (s : State) v : (s.setRegions v).rtq = s.rtq := rfl
@[simp] theorem State.setRegions_patrol (s : State) v : (s.setRegions v).patrol = s.patrol := rfl
@[simp] theorem State.setRegions_erq (s : State) v : (s.setRegions v).erq = s.erq := rfl
@[simp] theorem State.setRegions_irq (s : State) v : (s.setRegions v).irq = s.irq := rfl
@[simp] theorem State.setRegions_regions (s : State) v : (s.setRegions v).regions = v := rfl
@[simp] theorem State.setRegions_ports (s : State) v : (s.setRegions v).ports = s.ports := rfl
@[simp] theorem State.setRegions_arbiter (s : State) v : (s.setRegions v).arbiter = s.arbiter := rfl
@[simp] theorem State.setRegions_ctl (s : State) v : (s.setRegions v).ctl = s.ctl := rfl
@[simp] theorem State.setRegions_cmd (s : State) v : (s.setRegions v).cmd = s.cmd := rfl
@[simp] theorem State.setRegions_counters (s : State) v : (s.setRegions v).counters = s.counters := rfl
@[simp] theorem State.setRegions_responses (s : State) v : (s.setRegions v).responses = s.responses := rfl
@[simp] theorem State.setRegions_freeReads (s : State) v : (s.setRegions v).freeReads = s.freeReads := rfl
@[simp] theorem State.setRegions_pending (s : State) v : (s.setRegions v).pending = s.pending := rfl

@[simp] theorem State.setPorts_pins (s : State) v : (s.setPorts v).pins = s.pins := rfl
@[simp] theorem State.setPorts_aif (s : State) v : (s.setPorts v).aif = s.aif := rfl
@[simp] theorem State.setPorts_lrt (s : State) v : (s.setPorts v).lrt = s.lrt := rfl
@[simp] theorem State.setPorts_pool (s : State) v : (s.setPorts v).pool = s.pool := rfl
@[simp] theorem State.setPorts_copy (s : State) v : (s.setPorts v).copy = s.copy := rfl
@[simp] theorem State.setPorts_olt (s : State) v : (s.setPorts v).olt = s.olt := rfl
@[simp] theorem State.setPorts_policy (s : State) v : (s.setPorts v).policy = s.policy := rfl
@[simp] theorem State.setPorts_suspects (s : State) v : (s.setPorts v).suspects = s.suspects := rfl
@[simp] theorem State.setPorts_rtq (s : State) v : (s.setPorts v).rtq = s.rtq := rfl
@[simp] theorem State.setPorts_patrol (s : State) v : (s.setPorts v).patrol = s.patrol := rfl
@[simp] theorem State.setPorts_erq (s : State) v : (s.setPorts v).erq = s.erq := rfl
@[simp] theorem State.setPorts_irq (s : State) v : (s.setPorts v).irq = s.irq := rfl
@[simp] theorem State.setPorts_regions (s : State) v : (s.setPorts v).regions = s.regions := rfl
@[simp] theorem State.setPorts_ports (s : State) v : (s.setPorts v).ports = v := rfl
@[simp] theorem State.setPorts_arbiter (s : State) v : (s.setPorts v).arbiter = s.arbiter := rfl
@[simp] theorem State.setPorts_ctl (s : State) v : (s.setPorts v).ctl = s.ctl := rfl
@[simp] theorem State.setPorts_cmd (s : State) v : (s.setPorts v).cmd = s.cmd := rfl
@[simp] theorem State.setPorts_counters (s : State) v : (s.setPorts v).counters = s.counters := rfl
@[simp] theorem State.setPorts_responses (s : State) v : (s.setPorts v).responses = s.responses := rfl
@[simp] theorem State.setPorts_freeReads (s : State) v : (s.setPorts v).freeReads = s.freeReads := rfl
@[simp] theorem State.setPorts_pending (s : State) v : (s.setPorts v).pending = s.pending := rfl

@[simp] theorem State.setArbiter_pins (s : State) v : (s.setArbiter v).pins = s.pins := rfl
@[simp] theorem State.setArbiter_aif (s : State) v : (s.setArbiter v).aif = s.aif := rfl
@[simp] theorem State.setArbiter_lrt (s : State) v : (s.setArbiter v).lrt = s.lrt := rfl
@[simp] theorem State.setArbiter_pool (s : State) v : (s.setArbiter v).pool = s.pool := rfl
@[simp] theorem State.setArbiter_copy (s : State) v : (s.setArbiter v).copy = s.copy := rfl
@[simp] theorem State.setArbiter_olt (s : State) v : (s.setArbiter v).olt = s.olt := rfl
@[simp] theorem State.setArbiter_policy (s : State) v : (s.setArbiter v).policy = s.policy := rfl
@[simp] theorem State.setArbiter_suspects (s : State) v : (s.setArbiter v).suspects = s.suspects := rfl
@[simp] theorem State.setArbiter_rtq (s : State) v : (s.setArbiter v).rtq = s.rtq := rfl
@[simp] theorem State.setArbiter_patrol (s : State) v : (s.setArbiter v).patrol = s.patrol := rfl
@[simp] theorem State.setArbiter_erq (s : State) v : (s.setArbiter v).erq = s.erq := rfl
@[simp] theorem State.setArbiter_irq (s : State) v : (s.setArbiter v).irq = s.irq := rfl
@[simp] theorem State.setArbiter_regions (s : State) v : (s.setArbiter v).regions = s.regions := rfl
@[simp] theorem State.setArbiter_ports (s : State) v : (s.setArbiter v).ports = s.ports := rfl
@[simp] theorem State.setArbiter_arbiter (s : State) v : (s.setArbiter v).arbiter = v := rfl
@[simp] theorem State.setArbiter_ctl (s : State) v : (s.setArbiter v).ctl = s.ctl := rfl
@[simp] theorem State.setArbiter_cmd (s : State) v : (s.setArbiter v).cmd = s.cmd := rfl
@[simp] theorem State.setArbiter_counters (s : State) v : (s.setArbiter v).counters = s.counters := rfl
@[simp] theorem State.setArbiter_responses (s : State) v : (s.setArbiter v).responses = s.responses := rfl
@[simp] theorem State.setArbiter_freeReads (s : State) v : (s.setArbiter v).freeReads = s.freeReads := rfl
@[simp] theorem State.setArbiter_pending (s : State) v : (s.setArbiter v).pending = s.pending := rfl

@[simp] theorem State.setCtl_pins (s : State) v : (s.setCtl v).pins = s.pins := rfl
@[simp] theorem State.setCtl_aif (s : State) v : (s.setCtl v).aif = s.aif := rfl
@[simp] theorem State.setCtl_lrt (s : State) v : (s.setCtl v).lrt = s.lrt := rfl
@[simp] theorem State.setCtl_pool (s : State) v : (s.setCtl v).pool = s.pool := rfl
@[simp] theorem State.setCtl_copy (s : State) v : (s.setCtl v).copy = s.copy := rfl
@[simp] theorem State.setCtl_olt (s : State) v : (s.setCtl v).olt = s.olt := rfl
@[simp] theorem State.setCtl_policy (s : State) v : (s.setCtl v).policy = s.policy := rfl
@[simp] theorem State.setCtl_suspects (s : State) v : (s.setCtl v).suspects = s.suspects := rfl
@[simp] theorem State.setCtl_rtq (s : State) v : (s.setCtl v).rtq = s.rtq := rfl
@[simp] theorem State.setCtl_patrol (s : State) v : (s.setCtl v).patrol = s.patrol := rfl
@[simp] theorem State.setCtl_erq (s : State) v : (s.setCtl v).erq = s.erq := rfl
@[simp] theorem State.setCtl_irq (s : State) v : (s.setCtl v).irq = s.irq := rfl
@[simp] theorem State.setCtl_regions (s : State) v : (s.setCtl v).regions = s.regions := rfl
@[simp] theorem State.setCtl_ports (s : State) v : (s.setCtl v).ports = s.ports := rfl
@[simp] theorem State.setCtl_arbiter (s : State) v : (s.setCtl v).arbiter = s.arbiter := rfl
@[simp] theorem State.setCtl_ctl (s : State) v : (s.setCtl v).ctl = v := rfl
@[simp] theorem State.setCtl_cmd (s : State) v : (s.setCtl v).cmd = s.cmd := rfl
@[simp] theorem State.setCtl_counters (s : State) v : (s.setCtl v).counters = s.counters := rfl
@[simp] theorem State.setCtl_responses (s : State) v : (s.setCtl v).responses = s.responses := rfl
@[simp] theorem State.setCtl_freeReads (s : State) v : (s.setCtl v).freeReads = s.freeReads := rfl
@[simp] theorem State.setCtl_pending (s : State) v : (s.setCtl v).pending = s.pending := rfl

@[simp] theorem State.setCmd_pins (s : State) v : (s.setCmd v).pins = s.pins := rfl
@[simp] theorem State.setCmd_aif (s : State) v : (s.setCmd v).aif = s.aif := rfl
@[simp] theorem State.setCmd_lrt (s : State) v : (s.setCmd v).lrt = s.lrt := rfl
@[simp] theorem State.setCmd_pool (s : State) v : (s.setCmd v).pool = s.pool := rfl
@[simp] theorem State.setCmd_copy (s : State) v : (s.setCmd v).copy = s.copy := rfl
@[simp] theorem State.setCmd_olt (s : State) v : (s.setCmd v).olt = s.olt := rfl
@[simp] theorem State.setCmd_policy (s : State) v : (s.setCmd v).policy = s.policy := rfl
@[simp] theorem State.setCmd_suspects (s : State) v : (s.setCmd v).suspects = s.suspects := rfl
@[simp] theorem State.setCmd_rtq (s : State) v : (s.setCmd v).rtq = s.rtq := rfl
@[simp] theorem State.setCmd_patrol (s : State) v : (s.setCmd v).patrol = s.patrol := rfl
@[simp] theorem State.setCmd_erq (s : State) v : (s.setCmd v).erq = s.erq := rfl
@[simp] theorem State.setCmd_irq (s : State) v : (s.setCmd v).irq = s.irq := rfl
@[simp] theorem State.setCmd_regions (s : State) v : (s.setCmd v).regions = s.regions := rfl
@[simp] theorem State.setCmd_ports (s : State) v : (s.setCmd v).ports = s.ports := rfl
@[simp] theorem State.setCmd_arbiter (s : State) v : (s.setCmd v).arbiter = s.arbiter := rfl
@[simp] theorem State.setCmd_ctl (s : State) v : (s.setCmd v).ctl = s.ctl := rfl
@[simp] theorem State.setCmd_cmd (s : State) v : (s.setCmd v).cmd = v := rfl
@[simp] theorem State.setCmd_counters (s : State) v : (s.setCmd v).counters = s.counters := rfl
@[simp] theorem State.setCmd_responses (s : State) v : (s.setCmd v).responses = s.responses := rfl
@[simp] theorem State.setCmd_freeReads (s : State) v : (s.setCmd v).freeReads = s.freeReads := rfl
@[simp] theorem State.setCmd_pending (s : State) v : (s.setCmd v).pending = s.pending := rfl

@[simp] theorem State.setCounters_pins (s : State) v : (s.setCounters v).pins = s.pins := rfl
@[simp] theorem State.setCounters_aif (s : State) v : (s.setCounters v).aif = s.aif := rfl
@[simp] theorem State.setCounters_lrt (s : State) v : (s.setCounters v).lrt = s.lrt := rfl
@[simp] theorem State.setCounters_pool (s : State) v : (s.setCounters v).pool = s.pool := rfl
@[simp] theorem State.setCounters_copy (s : State) v : (s.setCounters v).copy = s.copy := rfl
@[simp] theorem State.setCounters_olt (s : State) v : (s.setCounters v).olt = s.olt := rfl
@[simp] theorem State.setCounters_policy (s : State) v : (s.setCounters v).policy = s.policy := rfl
@[simp] theorem State.setCounters_suspects (s : State) v : (s.setCounters v).suspects = s.suspects := rfl
@[simp] theorem State.setCounters_rtq (s : State) v : (s.setCounters v).rtq = s.rtq := rfl
@[simp] theorem State.setCounters_patrol (s : State) v : (s.setCounters v).patrol = s.patrol := rfl
@[simp] theorem State.setCounters_erq (s : State) v : (s.setCounters v).erq = s.erq := rfl
@[simp] theorem State.setCounters_irq (s : State) v : (s.setCounters v).irq = s.irq := rfl
@[simp] theorem State.setCounters_regions (s : State) v : (s.setCounters v).regions = s.regions := rfl
@[simp] theorem State.setCounters_ports (s : State) v : (s.setCounters v).ports = s.ports := rfl
@[simp] theorem State.setCounters_arbiter (s : State) v : (s.setCounters v).arbiter = s.arbiter := rfl
@[simp] theorem State.setCounters_ctl (s : State) v : (s.setCounters v).ctl = s.ctl := rfl
@[simp] theorem State.setCounters_cmd (s : State) v : (s.setCounters v).cmd = s.cmd := rfl
@[simp] theorem State.setCounters_counters (s : State) v : (s.setCounters v).counters = v := rfl
@[simp] theorem State.setCounters_responses (s : State) v : (s.setCounters v).responses = s.responses := rfl
@[simp] theorem State.setCounters_freeReads (s : State) v : (s.setCounters v).freeReads = s.freeReads := rfl
@[simp] theorem State.setCounters_pending (s : State) v : (s.setCounters v).pending = s.pending := rfl

@[simp] theorem State.setResponses_pins (s : State) v : (s.setResponses v).pins = s.pins := rfl
@[simp] theorem State.setResponses_aif (s : State) v : (s.setResponses v).aif = s.aif := rfl
@[simp] theorem State.setResponses_lrt (s : State) v : (s.setResponses v).lrt = s.lrt := rfl
@[simp] theorem State.setResponses_pool (s : State) v : (s.setResponses v).pool = s.pool := rfl
@[simp] theorem State.setResponses_copy (s : State) v : (s.setResponses v).copy = s.copy := rfl
@[simp] theorem State.setResponses_olt (s : State) v : (s.setResponses v).olt = s.olt := rfl
@[simp] theorem State.setResponses_policy (s : State) v : (s.setResponses v).policy = s.policy := rfl
@[simp] theorem State.setResponses_suspects (s : State) v : (s.setResponses v).suspects = s.suspects := rfl
@[simp] theorem State.setResponses_rtq (s : State) v : (s.setResponses v).rtq = s.rtq := rfl
@[simp] theorem State.setResponses_patrol (s : State) v : (s.setResponses v).patrol = s.patrol := rfl
@[simp] theorem State.setResponses_erq (s : State) v : (s.setResponses v).erq = s.erq := rfl
@[simp] theorem State.setResponses_irq (s : State) v : (s.setResponses v).irq = s.irq := rfl
@[simp] theorem State.setResponses_regions (s : State) v : (s.setResponses v).regions = s.regions := rfl
@[simp] theorem State.setResponses_ports (s : State) v : (s.setResponses v).ports = s.ports := rfl
@[simp] theorem State.setResponses_arbiter (s : State) v : (s.setResponses v).arbiter = s.arbiter := rfl
@[simp] theorem State.setResponses_ctl (s : State) v : (s.setResponses v).ctl = s.ctl := rfl
@[simp] theorem State.setResponses_cmd (s : State) v : (s.setResponses v).cmd = s.cmd := rfl
@[simp] theorem State.setResponses_counters (s : State) v : (s.setResponses v).counters = s.counters := rfl
@[simp] theorem State.setResponses_responses (s : State) v : (s.setResponses v).responses = v := rfl
@[simp] theorem State.setResponses_freeReads (s : State) v : (s.setResponses v).freeReads = s.freeReads := rfl
@[simp] theorem State.setResponses_pending (s : State) v : (s.setResponses v).pending = s.pending := rfl

@[simp] theorem State.setFreeReads_pins (s : State) v : (s.setFreeReads v).pins = s.pins := rfl
@[simp] theorem State.setFreeReads_aif (s : State) v : (s.setFreeReads v).aif = s.aif := rfl
@[simp] theorem State.setFreeReads_lrt (s : State) v : (s.setFreeReads v).lrt = s.lrt := rfl
@[simp] theorem State.setFreeReads_pool (s : State) v : (s.setFreeReads v).pool = s.pool := rfl
@[simp] theorem State.setFreeReads_copy (s : State) v : (s.setFreeReads v).copy = s.copy := rfl
@[simp] theorem State.setFreeReads_olt (s : State) v : (s.setFreeReads v).olt = s.olt := rfl
@[simp] theorem State.setFreeReads_policy (s : State) v : (s.setFreeReads v).policy = s.policy := rfl
@[simp] theorem State.setFreeReads_suspects (s : State) v : (s.setFreeReads v).suspects = s.suspects := rfl
@[simp] theorem State.setFreeReads_rtq (s : State) v : (s.setFreeReads v).rtq = s.rtq := rfl
@[simp] theorem State.setFreeReads_patrol (s : State) v : (s.setFreeReads v).patrol = s.patrol := rfl
@[simp] theorem State.setFreeReads_erq (s : State) v : (s.setFreeReads v).erq = s.erq := rfl
@[simp] theorem State.setFreeReads_irq (s : State) v : (s.setFreeReads v).irq = s.irq := rfl
@[simp] theorem State.setFreeReads_regions (s : State) v : (s.setFreeReads v).regions = s.regions := rfl
@[simp] theorem State.setFreeReads_ports (s : State) v : (s.setFreeReads v).ports = s.ports := rfl
@[simp] theorem State.setFreeReads_arbiter (s : State) v : (s.setFreeReads v).arbiter = s.arbiter := rfl
@[simp] theorem State.setFreeReads_ctl (s : State) v : (s.setFreeReads v).ctl = s.ctl := rfl
@[simp] theorem State.setFreeReads_cmd (s : State) v : (s.setFreeReads v).cmd = s.cmd := rfl
@[simp] theorem State.setFreeReads_counters (s : State) v : (s.setFreeReads v).counters = s.counters := rfl
@[simp] theorem State.setFreeReads_responses (s : State) v : (s.setFreeReads v).responses = s.responses := rfl
@[simp] theorem State.setFreeReads_freeReads (s : State) v : (s.setFreeReads v).freeReads = v := rfl
@[simp] theorem State.setFreeReads_pending (s : State) v : (s.setFreeReads v).pending = s.pending := rfl

@[simp] theorem State.setPending_pins (s : State) v : (s.setPending v).pins = s.pins := rfl
@[simp] theorem State.setPending_aif (s : State) v : (s.setPending v).aif = s.aif := rfl
@[simp] theorem State.setPending_lrt (s : State) v : (s.setPending v).lrt = s.lrt := rfl
@[simp] theorem State.setPending_pool (s : State) v : (s.setPending v).pool = s.pool := rfl
@[simp] theorem State.setPending_copy (s : State) v : (s.setPending v).copy = s.copy := rfl
@[simp] theorem State.setPending_olt (s : State) v : (s.setPending v).olt = s.olt := rfl
@[simp] theorem State.setPending_policy (s : State) v : (s.setPending v).policy = s.policy := rfl
@[simp] theorem State.setPending_suspects (s : State) v : (s.setPending v).suspects = s.suspects := rfl
@[simp] theorem State.setPending_rtq (s : State) v : (s.setPending v).rtq = s.rtq := rfl
@[simp] theorem State.setPending_patrol (s : State) v : (s.setPending v).patrol = s.patrol := rfl
@[simp] theorem State.setPending_erq (s : State) v : (s.setPending v).erq = s.erq := rfl
@[simp] theorem State.setPending_irq (s : State) v : (s.setPending v).irq = s.irq := rfl
@[simp] theorem State.setPending_regions (s : State) v : (s.setPending v).regions = s.regions := rfl
@[simp] theorem State.setPending_ports (s : State) v : (s.setPending v).ports = s.ports := rfl
@[simp] theorem State.setPending_arbiter (s : State) v : (s.setPending v).arbiter = s.arbiter := rfl
@[simp] theorem State.setPending_ctl (s : State) v : (s.setPending v).ctl = s.ctl := rfl
@[simp] theorem State.setPending_cmd (s : State) v : (s.setPending v).cmd = s.cmd := rfl
@[simp] theorem State.setPending_counters (s : State) v : (s.setPending v).counters = s.counters := rfl
@[simp] theorem State.setPending_responses (s : State) v : (s.setPending v).responses = s.responses := rfl
@[simp] theorem State.setPending_freeReads (s : State) v : (s.setPending v).freeReads = s.freeReads := rfl
@[simp] theorem State.setPending_pending (s : State) v : (s.setPending v).pending = v := rfl

end Sys2Proof.Machine
end

