-- ==== Sys2Proof/Laws/Frames.lean ====
section
/-!
SUPPORT. The frame of every operation over the state: the blocks it does not touch, said once per operation. A proof
about an operation cites its frame and never unfolds it for a block that stands in it.
-/

namespace Sys2Proof.Machine

@[simp] theorem State.count_frame (s : State) (c : Counter) :
    (s.count c).pins = s.pins ∧ (s.count c).aif = s.aif ∧ (s.count c).lrt = s.lrt ∧
    (s.count c).pool = s.pool ∧ (s.count c).copy = s.copy ∧ (s.count c).olt = s.olt ∧
    (s.count c).policy = s.policy ∧ (s.count c).suspects = s.suspects ∧ (s.count c).rtq = s.rtq ∧
    (s.count c).patrol = s.patrol ∧ (s.count c).erq = s.erq ∧ (s.count c).irq = s.irq ∧
    (s.count c).regions = s.regions ∧ (s.count c).ports = s.ports ∧ (s.count c).arbiter = s.arbiter ∧
    (s.count c).ctl = s.ctl ∧ (s.count c).cmd = s.cmd ∧ (s.count c).responses = s.responses ∧
    (s.count c).freeReads = s.freeReads ∧ (s.count c).pending = s.pending := by
  unfold State.count
  simp

@[simp] theorem State.latch_frame (s : State) (c : Cause) :
    (s.latch c).pins = s.pins ∧ (s.latch c).aif = s.aif ∧ (s.latch c).lrt = s.lrt ∧
    (s.latch c).pool = s.pool ∧ (s.latch c).copy = s.copy ∧ (s.latch c).olt = s.olt ∧
    (s.latch c).policy = s.policy ∧ (s.latch c).suspects = s.suspects ∧ (s.latch c).rtq = s.rtq ∧
    (s.latch c).patrol = s.patrol ∧ (s.latch c).erq = s.erq ∧ (s.latch c).regions = s.regions ∧
    (s.latch c).ports = s.ports ∧ (s.latch c).arbiter = s.arbiter ∧ (s.latch c).ctl = s.ctl ∧
    (s.latch c).cmd = s.cmd ∧ (s.latch c).counters = s.counters ∧ (s.latch c).responses = s.responses ∧
    (s.latch c).freeReads = s.freeReads ∧ (s.latch c).pending = s.pending := by
  unfold State.latch
  simp

@[simp] theorem State.issueOp_frame (s : State) (op : ArrayOp) :
    (s.issueOp op).pins = s.pins ∧ (s.issueOp op).lrt = s.lrt ∧ (s.issueOp op).pool = s.pool ∧
    (s.issueOp op).copy = s.copy ∧ (s.issueOp op).olt = s.olt ∧ (s.issueOp op).policy = s.policy ∧
    (s.issueOp op).suspects = s.suspects ∧ (s.issueOp op).rtq = s.rtq ∧ (s.issueOp op).patrol = s.patrol ∧
    (s.issueOp op).erq = s.erq ∧ (s.issueOp op).irq = s.irq ∧ (s.issueOp op).regions = s.regions ∧
    (s.issueOp op).ports = s.ports ∧ (s.issueOp op).arbiter = s.arbiter ∧ (s.issueOp op).ctl = s.ctl ∧
    (s.issueOp op).cmd = s.cmd ∧ (s.issueOp op).counters = s.counters ∧
    (s.issueOp op).responses = s.responses ∧ (s.issueOp op).freeReads = s.freeReads ∧
    (s.issueOp op).pending = s.pending := by
  unfold State.issueOp
  simp

@[simp] theorem State.issueRead_frame (s : State) (loc : Loc) (line : Nat) (decoded : Bool) (by_ : Issuer) :
    (s.issueRead loc line decoded by_).pins = s.pins ∧ (s.issueRead loc line decoded by_).lrt = s.lrt ∧
    (s.issueRead loc line decoded by_).pool = s.pool ∧ (s.issueRead loc line decoded by_).copy = s.copy ∧
    (s.issueRead loc line decoded by_).olt = s.olt ∧ (s.issueRead loc line decoded by_).policy = s.policy ∧
    (s.issueRead loc line decoded by_).suspects = s.suspects ∧
    (s.issueRead loc line decoded by_).rtq = s.rtq ∧ (s.issueRead loc line decoded by_).patrol = s.patrol ∧
    (s.issueRead loc line decoded by_).erq = s.erq ∧ (s.issueRead loc line decoded by_).irq = s.irq ∧
    (s.issueRead loc line decoded by_).regions = s.regions ∧
    (s.issueRead loc line decoded by_).ports = s.ports ∧
    (s.issueRead loc line decoded by_).arbiter = s.arbiter ∧
    (s.issueRead loc line decoded by_).ctl = s.ctl ∧ (s.issueRead loc line decoded by_).cmd = s.cmd ∧
    (s.issueRead loc line decoded by_).counters = s.counters ∧
    (s.issueRead loc line decoded by_).responses = s.responses ∧
    (s.issueRead loc line decoded by_).freeReads = s.freeReads ∧
    (s.issueRead loc line decoded by_).pending = s.pending := by
  unfold State.issueRead
  simp

@[simp] theorem State.issueWrite_frame (s : State) (loc : Loc) (line : Nat) (data : LineData) (by_ : Issuer) :
    (s.issueWrite loc line data by_).pins = s.pins ∧ (s.issueWrite loc line data by_).lrt = s.lrt ∧
    (s.issueWrite loc line data by_).pool = s.pool ∧ (s.issueWrite loc line data by_).copy = s.copy ∧
    (s.issueWrite loc line data by_).olt = s.olt ∧ (s.issueWrite loc line data by_).policy = s.policy ∧
    (s.issueWrite loc line data by_).suspects = s.suspects ∧ (s.issueWrite loc line data by_).rtq = s.rtq ∧
    (s.issueWrite loc line data by_).patrol = s.patrol ∧ (s.issueWrite loc line data by_).erq = s.erq ∧
    (s.issueWrite loc line data by_).irq = s.irq ∧ (s.issueWrite loc line data by_).regions = s.regions ∧
    (s.issueWrite loc line data by_).ports = s.ports ∧
    (s.issueWrite loc line data by_).arbiter = s.arbiter ∧ (s.issueWrite loc line data by_).ctl = s.ctl ∧
    (s.issueWrite loc line data by_).cmd = s.cmd ∧ (s.issueWrite loc line data by_).counters = s.counters ∧
    (s.issueWrite loc line data by_).responses = s.responses ∧
    (s.issueWrite loc line data by_).freeReads = s.freeReads ∧
    (s.issueWrite loc line data by_).pending = s.pending := by
  unfold State.issueWrite
  (repeat' (first | split | dsimp only)) <;> simp

@[simp] theorem State.issuePoison_frame (s : State) (loc : Loc) (line : Nat) (by_ : Issuer) :
    (s.issuePoison loc line by_).pins = s.pins ∧ (s.issuePoison loc line by_).lrt = s.lrt ∧
    (s.issuePoison loc line by_).pool = s.pool ∧ (s.issuePoison loc line by_).copy = s.copy ∧
    (s.issuePoison loc line by_).olt = s.olt ∧ (s.issuePoison loc line by_).policy = s.policy ∧
    (s.issuePoison loc line by_).suspects = s.suspects ∧ (s.issuePoison loc line by_).rtq = s.rtq ∧
    (s.issuePoison loc line by_).patrol = s.patrol ∧ (s.issuePoison loc line by_).erq = s.erq ∧
    (s.issuePoison loc line by_).irq = s.irq ∧ (s.issuePoison loc line by_).regions = s.regions ∧
    (s.issuePoison loc line by_).ports = s.ports ∧ (s.issuePoison loc line by_).arbiter = s.arbiter ∧
    (s.issuePoison loc line by_).ctl = s.ctl ∧ (s.issuePoison loc line by_).cmd = s.cmd ∧
    (s.issuePoison loc line by_).counters = s.counters ∧
    (s.issuePoison loc line by_).responses = s.responses ∧
    (s.issuePoison loc line by_).freeReads = s.freeReads ∧ (s.issuePoison loc line by_).pending = s.pending := by
  unfold State.issuePoison
  simp

@[simp] theorem State.finishOp_frame (s : State) (op : ArrayOp) :
    (s.finishOp op).pins = s.pins ∧ (s.finishOp op).lrt = s.lrt ∧ (s.finishOp op).pool = s.pool ∧
    (s.finishOp op).copy = s.copy ∧ (s.finishOp op).olt = s.olt ∧ (s.finishOp op).policy = s.policy ∧
    (s.finishOp op).suspects = s.suspects ∧ (s.finishOp op).rtq = s.rtq ∧
    (s.finishOp op).patrol = s.patrol ∧ (s.finishOp op).erq = s.erq ∧ (s.finishOp op).irq = s.irq ∧
    (s.finishOp op).regions = s.regions ∧ (s.finishOp op).ports = s.ports ∧
    (s.finishOp op).arbiter = s.arbiter ∧ (s.finishOp op).ctl = s.ctl ∧ (s.finishOp op).cmd = s.cmd ∧
    (s.finishOp op).counters = s.counters ∧ (s.finishOp op).responses = s.responses ∧
    (s.finishOp op).pending = s.pending := by
  unfold State.finishOp
  simp

@[simp] theorem State.present_frame (s : State) (r : Response) :
    (s.present r).pins = s.pins ∧ (s.present r).aif = s.aif ∧ (s.present r).lrt = s.lrt ∧
    (s.present r).pool = s.pool ∧ (s.present r).copy = s.copy ∧ (s.present r).olt = s.olt ∧
    (s.present r).policy = s.policy ∧ (s.present r).suspects = s.suspects ∧ (s.present r).rtq = s.rtq ∧
    (s.present r).patrol = s.patrol ∧ (s.present r).erq = s.erq ∧ (s.present r).irq = s.irq ∧
    (s.present r).regions = s.regions ∧ (s.present r).ports = s.ports ∧ (s.present r).arbiter = s.arbiter ∧
    (s.present r).ctl = s.ctl ∧ (s.present r).cmd = s.cmd ∧ (s.present r).counters = s.counters ∧
    (s.present r).freeReads = s.freeReads ∧ (s.present r).pending = s.pending := by
  unfold State.present
  simp

@[simp] theorem State.releaseTag_frame (s : State) (p : PortId) (t : Tag) :
    (s.releaseTag p t).pins = s.pins ∧ (s.releaseTag p t).aif = s.aif ∧ (s.releaseTag p t).lrt = s.lrt ∧
    (s.releaseTag p t).pool = s.pool ∧ (s.releaseTag p t).copy = s.copy ∧ (s.releaseTag p t).olt = s.olt ∧
    (s.releaseTag p t).policy = s.policy ∧ (s.releaseTag p t).suspects = s.suspects ∧
    (s.releaseTag p t).rtq = s.rtq ∧ (s.releaseTag p t).patrol = s.patrol ∧
    (s.releaseTag p t).erq = s.erq ∧ (s.releaseTag p t).irq = s.irq ∧
    (s.releaseTag p t).regions = s.regions ∧ (s.releaseTag p t).arbiter = s.arbiter ∧
    (s.releaseTag p t).ctl = s.ctl ∧ (s.releaseTag p t).cmd = s.cmd ∧
    (s.releaseTag p t).counters = s.counters ∧ (s.releaseTag p t).responses = s.responses ∧
    (s.releaseTag p t).freeReads = s.freeReads ∧ (s.releaseTag p t).pending = s.pending := by
  unfold State.releaseTag
  simp

@[simp] theorem State.answer_frame (s : State) (r : Response) :
    (s.answer r).pins = s.pins ∧ (s.answer r).aif = s.aif ∧ (s.answer r).lrt = s.lrt ∧
    (s.answer r).pool = s.pool ∧ (s.answer r).copy = s.copy ∧ (s.answer r).olt = s.olt ∧
    (s.answer r).policy = s.policy ∧ (s.answer r).suspects = s.suspects ∧ (s.answer r).rtq = s.rtq ∧
    (s.answer r).patrol = s.patrol ∧ (s.answer r).erq = s.erq ∧ (s.answer r).irq = s.irq ∧
    (s.answer r).regions = s.regions ∧ (s.answer r).arbiter = s.arbiter ∧ (s.answer r).ctl = s.ctl ∧
    (s.answer r).cmd = s.cmd ∧ (s.answer r).counters = s.counters ∧ (s.answer r).freeReads = s.freeReads ∧
    (s.answer r).pending = s.pending := by
  unfold State.answer
  simp

@[simp] theorem State.appendRecord_frame (s : State) (rs : List Record) (r : Record) :
    (s.appendRecord rs r).pins = s.pins ∧ (s.appendRecord rs r).aif = s.aif ∧
    (s.appendRecord rs r).lrt = s.lrt ∧ (s.appendRecord rs r).pool = s.pool ∧
    (s.appendRecord rs r).copy = s.copy ∧ (s.appendRecord rs r).olt = s.olt ∧
    (s.appendRecord rs r).policy = s.policy ∧ (s.appendRecord rs r).suspects = s.suspects ∧
    (s.appendRecord rs r).rtq = s.rtq ∧ (s.appendRecord rs r).patrol = s.patrol ∧
    (s.appendRecord rs r).regions = s.regions ∧ (s.appendRecord rs r).ports = s.ports ∧
    (s.appendRecord rs r).arbiter = s.arbiter ∧ (s.appendRecord rs r).ctl = s.ctl ∧
    (s.appendRecord rs r).cmd = s.cmd ∧ (s.appendRecord rs r).counters = s.counters ∧
    (s.appendRecord rs r).responses = s.responses ∧ (s.appendRecord rs r).freeReads = s.freeReads ∧
    (s.appendRecord rs r).pending = s.pending := by
  unfold State.appendRecord
  (repeat' (first | split | dsimp only)) <;> simp

@[simp] theorem State.offer_frame (s : State) (r : Record) :
    (s.offer r).pins = s.pins ∧ (s.offer r).aif = s.aif ∧ (s.offer r).lrt = s.lrt ∧
    (s.offer r).pool = s.pool ∧ (s.offer r).copy = s.copy ∧ (s.offer r).olt = s.olt ∧
    (s.offer r).policy = s.policy ∧ (s.offer r).suspects = s.suspects ∧ (s.offer r).rtq = s.rtq ∧
    (s.offer r).patrol = s.patrol ∧ (s.offer r).regions = s.regions ∧ (s.offer r).ports = s.ports ∧
    (s.offer r).arbiter = s.arbiter ∧ (s.offer r).ctl = s.ctl ∧ (s.offer r).cmd = s.cmd ∧
    (s.offer r).responses = s.responses ∧ (s.offer r).freeReads = s.freeReads ∧
    (s.offer r).pending = s.pending := by
  unfold State.offer
  (repeat' split) <;> simp

@[simp] theorem State.addEntry_frame (s : State) (e : RemapEntry) :
    (s.addEntry e).pins = s.pins ∧ (s.addEntry e).aif = s.aif ∧ (s.addEntry e).pool = s.pool ∧
    (s.addEntry e).copy = s.copy ∧ (s.addEntry e).olt = s.olt ∧ (s.addEntry e).policy = s.policy ∧
    (s.addEntry e).suspects = s.suspects ∧ (s.addEntry e).rtq = s.rtq ∧ (s.addEntry e).patrol = s.patrol ∧
    (s.addEntry e).erq = s.erq ∧ (s.addEntry e).irq = s.irq ∧ (s.addEntry e).regions = s.regions ∧
    (s.addEntry e).ports = s.ports ∧ (s.addEntry e).arbiter = s.arbiter ∧ (s.addEntry e).ctl = s.ctl ∧
    (s.addEntry e).cmd = s.cmd ∧ (s.addEntry e).counters = s.counters ∧
    (s.addEntry e).responses = s.responses ∧ (s.addEntry e).freeReads = s.freeReads ∧
    (s.addEntry e).pending = s.pending := by
  unfold State.addEntry
  simp

@[simp] theorem State.putEntry_frame (s : State) (line : Nat) (e : Option RemapEntry) :
    (s.putEntry line e).pins = s.pins ∧ (s.putEntry line e).aif = s.aif ∧
    (s.putEntry line e).pool = s.pool ∧ (s.putEntry line e).copy = s.copy ∧
    (s.putEntry line e).olt = s.olt ∧ (s.putEntry line e).policy = s.policy ∧
    (s.putEntry line e).suspects = s.suspects ∧ (s.putEntry line e).rtq = s.rtq ∧
    (s.putEntry line e).patrol = s.patrol ∧ (s.putEntry line e).erq = s.erq ∧
    (s.putEntry line e).irq = s.irq ∧ (s.putEntry line e).regions = s.regions ∧
    (s.putEntry line e).ports = s.ports ∧ (s.putEntry line e).arbiter = s.arbiter ∧
    (s.putEntry line e).ctl = s.ctl ∧ (s.putEntry line e).cmd = s.cmd ∧
    (s.putEntry line e).counters = s.counters ∧ (s.putEntry line e).responses = s.responses ∧
    (s.putEntry line e).freeReads = s.freeReads ∧ (s.putEntry line e).pending = s.pending := by
  unfold State.putEntry
  simp

@[simp] theorem State.setSpare_frame (s : State) (n : Nat) (x : SpareState) :
    (s.setSpare n x).pins = s.pins ∧ (s.setSpare n x).aif = s.aif ∧ (s.setSpare n x).lrt = s.lrt ∧
    (s.setSpare n x).copy = s.copy ∧ (s.setSpare n x).olt = s.olt ∧ (s.setSpare n x).policy = s.policy ∧
    (s.setSpare n x).suspects = s.suspects ∧ (s.setSpare n x).rtq = s.rtq ∧
    (s.setSpare n x).patrol = s.patrol ∧ (s.setSpare n x).erq = s.erq ∧ (s.setSpare n x).irq = s.irq ∧
    (s.setSpare n x).regions = s.regions ∧ (s.setSpare n x).ports = s.ports ∧
    (s.setSpare n x).arbiter = s.arbiter ∧ (s.setSpare n x).ctl = s.ctl ∧ (s.setSpare n x).cmd = s.cmd ∧
    (s.setSpare n x).counters = s.counters ∧ (s.setSpare n x).responses = s.responses ∧
    (s.setSpare n x).freeReads = s.freeReads ∧ (s.setSpare n x).pending = s.pending := by
  unfold State.setSpare
  simp

@[simp] theorem State.noteCrossing_frame (s : State) (before : Nat) :
    (s.noteCrossing before).pins = s.pins ∧ (s.noteCrossing before).aif = s.aif ∧
    (s.noteCrossing before).lrt = s.lrt ∧ (s.noteCrossing before).pool = s.pool ∧
    (s.noteCrossing before).copy = s.copy ∧ (s.noteCrossing before).olt = s.olt ∧
    (s.noteCrossing before).policy = s.policy ∧ (s.noteCrossing before).suspects = s.suspects ∧
    (s.noteCrossing before).rtq = s.rtq ∧ (s.noteCrossing before).patrol = s.patrol ∧
    (s.noteCrossing before).erq = s.erq ∧ (s.noteCrossing before).regions = s.regions ∧
    (s.noteCrossing before).ports = s.ports ∧ (s.noteCrossing before).arbiter = s.arbiter ∧
    (s.noteCrossing before).ctl = s.ctl ∧ (s.noteCrossing before).cmd = s.cmd ∧
    (s.noteCrossing before).counters = s.counters ∧ (s.noteCrossing before).responses = s.responses ∧
    (s.noteCrossing before).freeReads = s.freeReads ∧ (s.noteCrossing before).pending = s.pending := by
  unfold State.noteCrossing
  (repeat' split) <;> simp

@[simp] theorem State.takeSpare_frame (s : State) (n : Nat) (x : SpareState) :
    (s.takeSpare n x).pins = s.pins ∧ (s.takeSpare n x).aif = s.aif ∧ (s.takeSpare n x).lrt = s.lrt ∧
    (s.takeSpare n x).copy = s.copy ∧ (s.takeSpare n x).olt = s.olt ∧ (s.takeSpare n x).policy = s.policy ∧
    (s.takeSpare n x).suspects = s.suspects ∧ (s.takeSpare n x).rtq = s.rtq ∧
    (s.takeSpare n x).patrol = s.patrol ∧ (s.takeSpare n x).erq = s.erq ∧
    (s.takeSpare n x).regions = s.regions ∧ (s.takeSpare n x).ports = s.ports ∧
    (s.takeSpare n x).arbiter = s.arbiter ∧ (s.takeSpare n x).ctl = s.ctl ∧ (s.takeSpare n x).cmd = s.cmd ∧
    (s.takeSpare n x).counters = s.counters ∧ (s.takeSpare n x).responses = s.responses ∧
    (s.takeSpare n x).freeReads = s.freeReads ∧ (s.takeSpare n x).pending = s.pending := by
  unfold State.takeSpare
  simp

@[simp] theorem State.putOpen_frame (s : State) (k : Nat) (e : OpenEntry) :
    (s.putOpen k e).pins = s.pins ∧ (s.putOpen k e).aif = s.aif ∧ (s.putOpen k e).lrt = s.lrt ∧
    (s.putOpen k e).pool = s.pool ∧ (s.putOpen k e).copy = s.copy ∧ (s.putOpen k e).policy = s.policy ∧
    (s.putOpen k e).suspects = s.suspects ∧ (s.putOpen k e).rtq = s.rtq ∧
    (s.putOpen k e).patrol = s.patrol ∧ (s.putOpen k e).erq = s.erq ∧ (s.putOpen k e).irq = s.irq ∧
    (s.putOpen k e).regions = s.regions ∧ (s.putOpen k e).ports = s.ports ∧
    (s.putOpen k e).arbiter = s.arbiter ∧ (s.putOpen k e).ctl = s.ctl ∧ (s.putOpen k e).cmd = s.cmd ∧
    (s.putOpen k e).counters = s.counters ∧ (s.putOpen k e).responses = s.responses ∧
    (s.putOpen k e).freeReads = s.freeReads ∧ (s.putOpen k e).pending = s.pending := by
  unfold State.putOpen
  simp

@[simp] theorem State.createEntry_frame (s : State) (work : Work) (line : Nat) (cls : CheckClass) :
    (s.createEntry work line cls).pins = s.pins ∧ (s.createEntry work line cls).aif = s.aif ∧
    (s.createEntry work line cls).lrt = s.lrt ∧ (s.createEntry work line cls).pool = s.pool ∧
    (s.createEntry work line cls).copy = s.copy ∧ (s.createEntry work line cls).policy = s.policy ∧
    (s.createEntry work line cls).suspects = s.suspects ∧ (s.createEntry work line cls).rtq = s.rtq ∧
    (s.createEntry work line cls).patrol = s.patrol ∧ (s.createEntry work line cls).erq = s.erq ∧
    (s.createEntry work line cls).irq = s.irq ∧ (s.createEntry work line cls).regions = s.regions ∧
    (s.createEntry work line cls).ports = s.ports ∧ (s.createEntry work line cls).arbiter = s.arbiter ∧
    (s.createEntry work line cls).ctl = s.ctl ∧ (s.createEntry work line cls).cmd = s.cmd ∧
    (s.createEntry work line cls).counters = s.counters ∧
    (s.createEntry work line cls).responses = s.responses ∧
    (s.createEntry work line cls).freeReads = s.freeReads ∧
    (s.createEntry work line cls).pending = s.pending := by
  unfold State.createEntry
  (repeat' (first | split | dsimp only)) <;> simp

@[simp] theorem State.removeEntry_frame (s : State) (k : Nat) :
    (s.removeEntry k).pins = s.pins ∧ (s.removeEntry k).aif = s.aif ∧ (s.removeEntry k).lrt = s.lrt ∧
    (s.removeEntry k).pool = s.pool ∧ (s.removeEntry k).copy = s.copy ∧
    (s.removeEntry k).policy = s.policy ∧ (s.removeEntry k).suspects = s.suspects ∧
    (s.removeEntry k).rtq = s.rtq ∧ (s.removeEntry k).patrol = s.patrol ∧ (s.removeEntry k).erq = s.erq ∧
    (s.removeEntry k).irq = s.irq ∧ (s.removeEntry k).regions = s.regions ∧
    (s.removeEntry k).ports = s.ports ∧ (s.removeEntry k).arbiter = s.arbiter ∧
    (s.removeEntry k).ctl = s.ctl ∧ (s.removeEntry k).cmd = s.cmd ∧
    (s.removeEntry k).counters = s.counters ∧ (s.removeEntry k).responses = s.responses ∧
    (s.removeEntry k).freeReads = s.freeReads ∧ (s.removeEntry k).pending = s.pending := by
  unfold State.removeEntry
  (repeat' split) <;> simp

@[simp] theorem State.completeCommand_frame (s : State) (r : CmdResult) :
    (s.completeCommand r).pins = s.pins ∧ (s.completeCommand r).aif = s.aif ∧
    (s.completeCommand r).lrt = s.lrt ∧ (s.completeCommand r).pool = s.pool ∧
    (s.completeCommand r).copy = s.copy ∧ (s.completeCommand r).olt = s.olt ∧
    (s.completeCommand r).policy = s.policy ∧ (s.completeCommand r).suspects = s.suspects ∧
    (s.completeCommand r).rtq = s.rtq ∧ (s.completeCommand r).patrol = s.patrol ∧
    (s.completeCommand r).erq = s.erq ∧ (s.completeCommand r).regions = s.regions ∧
    (s.completeCommand r).ports = s.ports ∧ (s.completeCommand r).arbiter = s.arbiter ∧
    (s.completeCommand r).ctl = s.ctl ∧ (s.completeCommand r).counters = s.counters ∧
    (s.completeCommand r).responses = s.responses ∧ (s.completeCommand r).freeReads = s.freeReads ∧
    (s.completeCommand r).pending = s.pending := by
  unfold State.completeCommand
  simp

@[simp] theorem State.holdSlot_frame (s : State) (c : Command) :
    (s.holdSlot c).pins = s.pins ∧ (s.holdSlot c).aif = s.aif ∧ (s.holdSlot c).lrt = s.lrt ∧
    (s.holdSlot c).pool = s.pool ∧ (s.holdSlot c).copy = s.copy ∧ (s.holdSlot c).olt = s.olt ∧
    (s.holdSlot c).policy = s.policy ∧ (s.holdSlot c).suspects = s.suspects ∧ (s.holdSlot c).rtq = s.rtq ∧
    (s.holdSlot c).patrol = s.patrol ∧ (s.holdSlot c).erq = s.erq ∧ (s.holdSlot c).irq = s.irq ∧
    (s.holdSlot c).regions = s.regions ∧ (s.holdSlot c).ports = s.ports ∧
    (s.holdSlot c).arbiter = s.arbiter ∧ (s.holdSlot c).ctl = s.ctl ∧
    (s.holdSlot c).counters = s.counters ∧ (s.holdSlot c).responses = s.responses ∧
    (s.holdSlot c).freeReads = s.freeReads ∧ (s.holdSlot c).pending = s.pending := by
  unfold State.holdSlot
  simp

@[simp] theorem State.enqueue_frame (s : State) (i : RetireItem) :
    (s.enqueue i).pins = s.pins ∧ (s.enqueue i).aif = s.aif ∧ (s.enqueue i).lrt = s.lrt ∧
    (s.enqueue i).pool = s.pool ∧ (s.enqueue i).copy = s.copy ∧ (s.enqueue i).olt = s.olt ∧
    (s.enqueue i).policy = s.policy ∧ (s.enqueue i).suspects = s.suspects ∧
    (s.enqueue i).patrol = s.patrol ∧ (s.enqueue i).erq = s.erq ∧ (s.enqueue i).irq = s.irq ∧
    (s.enqueue i).regions = s.regions ∧ (s.enqueue i).ports = s.ports ∧ (s.enqueue i).arbiter = s.arbiter ∧
    (s.enqueue i).ctl = s.ctl ∧ (s.enqueue i).cmd = s.cmd ∧ (s.enqueue i).counters = s.counters ∧
    (s.enqueue i).responses = s.responses ∧ (s.enqueue i).freeReads = s.freeReads ∧
    (s.enqueue i).pending = s.pending := by
  unfold State.enqueue
  simp

@[simp] theorem State.setSuspectEntries_frame (s : State) (es : List Suspect) :
    (s.setSuspectEntries es).pins = s.pins ∧ (s.setSuspectEntries es).aif = s.aif ∧
    (s.setSuspectEntries es).lrt = s.lrt ∧ (s.setSuspectEntries es).pool = s.pool ∧
    (s.setSuspectEntries es).copy = s.copy ∧ (s.setSuspectEntries es).olt = s.olt ∧
    (s.setSuspectEntries es).policy = s.policy ∧ (s.setSuspectEntries es).rtq = s.rtq ∧
    (s.setSuspectEntries es).patrol = s.patrol ∧ (s.setSuspectEntries es).erq = s.erq ∧
    (s.setSuspectEntries es).irq = s.irq ∧ (s.setSuspectEntries es).regions = s.regions ∧
    (s.setSuspectEntries es).ports = s.ports ∧ (s.setSuspectEntries es).arbiter = s.arbiter ∧
    (s.setSuspectEntries es).ctl = s.ctl ∧ (s.setSuspectEntries es).cmd = s.cmd ∧
    (s.setSuspectEntries es).counters = s.counters ∧ (s.setSuspectEntries es).responses = s.responses ∧
    (s.setSuspectEntries es).freeReads = s.freeReads ∧ (s.setSuspectEntries es).pending = s.pending := by
  unfold State.setSuspectEntries
  simp

@[simp] theorem State.removeSuspect_frame (s : State) (line : Nat) :
    (s.removeSuspect line).pins = s.pins ∧ (s.removeSuspect line).aif = s.aif ∧
    (s.removeSuspect line).lrt = s.lrt ∧ (s.removeSuspect line).pool = s.pool ∧
    (s.removeSuspect line).copy = s.copy ∧ (s.removeSuspect line).olt = s.olt ∧
    (s.removeSuspect line).policy = s.policy ∧ (s.removeSuspect line).rtq = s.rtq ∧
    (s.removeSuspect line).patrol = s.patrol ∧ (s.removeSuspect line).erq = s.erq ∧
    (s.removeSuspect line).irq = s.irq ∧ (s.removeSuspect line).regions = s.regions ∧
    (s.removeSuspect line).ports = s.ports ∧ (s.removeSuspect line).arbiter = s.arbiter ∧
    (s.removeSuspect line).ctl = s.ctl ∧ (s.removeSuspect line).cmd = s.cmd ∧
    (s.removeSuspect line).counters = s.counters ∧ (s.removeSuspect line).responses = s.responses ∧
    (s.removeSuspect line).freeReads = s.freeReads ∧ (s.removeSuspect line).pending = s.pending := by
  unfold State.removeSuspect
  simp

@[simp] theorem State.setWaiting_frame (s : State) (line : Nat) :
    (s.setWaiting line).pins = s.pins ∧ (s.setWaiting line).aif = s.aif ∧ (s.setWaiting line).lrt = s.lrt ∧
    (s.setWaiting line).pool = s.pool ∧ (s.setWaiting line).copy = s.copy ∧
    (s.setWaiting line).olt = s.olt ∧ (s.setWaiting line).policy = s.policy ∧
    (s.setWaiting line).rtq = s.rtq ∧ (s.setWaiting line).patrol = s.patrol ∧
    (s.setWaiting line).erq = s.erq ∧ (s.setWaiting line).irq = s.irq ∧
    (s.setWaiting line).regions = s.regions ∧ (s.setWaiting line).ports = s.ports ∧
    (s.setWaiting line).arbiter = s.arbiter ∧ (s.setWaiting line).ctl = s.ctl ∧
    (s.setWaiting line).cmd = s.cmd ∧ (s.setWaiting line).counters = s.counters ∧
    (s.setWaiting line).responses = s.responses ∧ (s.setWaiting line).freeReads = s.freeReads ∧
    (s.setWaiting line).pending = s.pending := by
  unfold State.setWaiting
  simp

@[simp] theorem State.nominate_frame (s : State) (line : Nat) :
    (s.nominate line).pins = s.pins ∧ (s.nominate line).aif = s.aif ∧ (s.nominate line).lrt = s.lrt ∧
    (s.nominate line).pool = s.pool ∧ (s.nominate line).copy = s.copy ∧ (s.nominate line).olt = s.olt ∧
    (s.nominate line).policy = s.policy ∧ (s.nominate line).patrol = s.patrol ∧
    (s.nominate line).erq = s.erq ∧ (s.nominate line).irq = s.irq ∧ (s.nominate line).regions = s.regions ∧
    (s.nominate line).ports = s.ports ∧ (s.nominate line).arbiter = s.arbiter ∧
    (s.nominate line).ctl = s.ctl ∧ (s.nominate line).cmd = s.cmd ∧
    (s.nominate line).counters = s.counters ∧ (s.nominate line).responses = s.responses ∧
    (s.nominate line).freeReads = s.freeReads ∧ (s.nominate line).pending = s.pending := by
  unfold State.nominate
  (repeat' split) <;> simp

@[simp] theorem State.nominateAt_frame (s : State) (line count : Nat) :
    (s.nominateAt line count).pins = s.pins ∧ (s.nominateAt line count).aif = s.aif ∧
    (s.nominateAt line count).lrt = s.lrt ∧ (s.nominateAt line count).pool = s.pool ∧
    (s.nominateAt line count).copy = s.copy ∧ (s.nominateAt line count).olt = s.olt ∧
    (s.nominateAt line count).policy = s.policy ∧ (s.nominateAt line count).patrol = s.patrol ∧
    (s.nominateAt line count).erq = s.erq ∧ (s.nominateAt line count).irq = s.irq ∧
    (s.nominateAt line count).regions = s.regions ∧ (s.nominateAt line count).ports = s.ports ∧
    (s.nominateAt line count).arbiter = s.arbiter ∧ (s.nominateAt line count).ctl = s.ctl ∧
    (s.nominateAt line count).cmd = s.cmd ∧ (s.nominateAt line count).counters = s.counters ∧
    (s.nominateAt line count).responses = s.responses ∧ (s.nominateAt line count).freeReads = s.freeReads ∧
    (s.nominateAt line count).pending = s.pending := by
  unfold State.nominateAt
  (repeat' split) <;> simp

@[simp] theorem State.suspectAtTail_frame (s : State) (e : Suspect) :
    (s.suspectAtTail e).pins = s.pins ∧ (s.suspectAtTail e).aif = s.aif ∧ (s.suspectAtTail e).lrt = s.lrt ∧
    (s.suspectAtTail e).pool = s.pool ∧ (s.suspectAtTail e).copy = s.copy ∧
    (s.suspectAtTail e).olt = s.olt ∧ (s.suspectAtTail e).policy = s.policy ∧
    (s.suspectAtTail e).rtq = s.rtq ∧ (s.suspectAtTail e).patrol = s.patrol ∧
    (s.suspectAtTail e).erq = s.erq ∧ (s.suspectAtTail e).irq = s.irq ∧
    (s.suspectAtTail e).regions = s.regions ∧ (s.suspectAtTail e).ports = s.ports ∧
    (s.suspectAtTail e).arbiter = s.arbiter ∧ (s.suspectAtTail e).ctl = s.ctl ∧
    (s.suspectAtTail e).cmd = s.cmd ∧ (s.suspectAtTail e).counters = s.counters ∧
    (s.suspectAtTail e).responses = s.responses ∧ (s.suspectAtTail e).freeReads = s.freeReads ∧
    (s.suspectAtTail e).pending = s.pending := by
  unfold State.suspectAtTail
  simp

@[simp] theorem State.addSuspect_frame (s : State) (line : Nat) (place : Loc) (mask : WordMask) :
    (s.addSuspect line place mask).pins = s.pins ∧ (s.addSuspect line place mask).aif = s.aif ∧
    (s.addSuspect line place mask).lrt = s.lrt ∧ (s.addSuspect line place mask).pool = s.pool ∧
    (s.addSuspect line place mask).copy = s.copy ∧ (s.addSuspect line place mask).olt = s.olt ∧
    (s.addSuspect line place mask).policy = s.policy ∧ (s.addSuspect line place mask).patrol = s.patrol ∧
    (s.addSuspect line place mask).erq = s.erq ∧ (s.addSuspect line place mask).irq = s.irq ∧
    (s.addSuspect line place mask).regions = s.regions ∧ (s.addSuspect line place mask).ports = s.ports ∧
    (s.addSuspect line place mask).arbiter = s.arbiter ∧ (s.addSuspect line place mask).ctl = s.ctl ∧
    (s.addSuspect line place mask).cmd = s.cmd ∧ (s.addSuspect line place mask).responses = s.responses ∧
    (s.addSuspect line place mask).freeReads = s.freeReads ∧
    (s.addSuspect line place mask).pending = s.pending := by
  unfold State.addSuspect
  (repeat' split) <;> simp

@[simp] theorem State.bumpSuspect_frame (s : State) (e : Suspect) (mask : WordMask) :
    (s.bumpSuspect e mask).pins = s.pins ∧ (s.bumpSuspect e mask).aif = s.aif ∧
    (s.bumpSuspect e mask).lrt = s.lrt ∧ (s.bumpSuspect e mask).pool = s.pool ∧
    (s.bumpSuspect e mask).copy = s.copy ∧ (s.bumpSuspect e mask).olt = s.olt ∧
    (s.bumpSuspect e mask).policy = s.policy ∧ (s.bumpSuspect e mask).patrol = s.patrol ∧
    (s.bumpSuspect e mask).erq = s.erq ∧ (s.bumpSuspect e mask).irq = s.irq ∧
    (s.bumpSuspect e mask).regions = s.regions ∧ (s.bumpSuspect e mask).ports = s.ports ∧
    (s.bumpSuspect e mask).arbiter = s.arbiter ∧ (s.bumpSuspect e mask).ctl = s.ctl ∧
    (s.bumpSuspect e mask).cmd = s.cmd ∧ (s.bumpSuspect e mask).counters = s.counters ∧
    (s.bumpSuspect e mask).responses = s.responses ∧ (s.bumpSuspect e mask).freeReads = s.freeReads ∧
    (s.bumpSuspect e mask).pending = s.pending := by
  unfold State.bumpSuspect
  (repeat' split) <;> simp

@[simp] theorem State.suspectUpdate_frame (s : State) (line : Nat) (place : Loc) (mask : WordMask) :
    (s.suspectUpdate line place mask).pins = s.pins ∧ (s.suspectUpdate line place mask).aif = s.aif ∧
    (s.suspectUpdate line place mask).lrt = s.lrt ∧ (s.suspectUpdate line place mask).pool = s.pool ∧
    (s.suspectUpdate line place mask).copy = s.copy ∧ (s.suspectUpdate line place mask).olt = s.olt ∧
    (s.suspectUpdate line place mask).policy = s.policy ∧
    (s.suspectUpdate line place mask).patrol = s.patrol ∧ (s.suspectUpdate line place mask).erq = s.erq ∧
    (s.suspectUpdate line place mask).irq = s.irq ∧ (s.suspectUpdate line place mask).regions = s.regions ∧
    (s.suspectUpdate line place mask).ports = s.ports ∧
    (s.suspectUpdate line place mask).arbiter = s.arbiter ∧ (s.suspectUpdate line place mask).ctl = s.ctl ∧
    (s.suspectUpdate line place mask).cmd = s.cmd ∧
    (s.suspectUpdate line place mask).responses = s.responses ∧
    (s.suspectUpdate line place mask).freeReads = s.freeReads ∧
    (s.suspectUpdate line place mask).pending = s.pending := by
  unfold State.suspectUpdate
  (repeat' split) <;> simp

@[simp] theorem reofferLines_frame (l : List Nat) (s : State) :
    (reofferLines l s).pins = s.pins ∧ (reofferLines l s).aif = s.aif ∧ (reofferLines l s).lrt = s.lrt ∧
    (reofferLines l s).pool = s.pool ∧ (reofferLines l s).copy = s.copy ∧ (reofferLines l s).olt = s.olt ∧
    (reofferLines l s).policy = s.policy ∧ (reofferLines l s).patrol = s.patrol ∧
    (reofferLines l s).erq = s.erq ∧ (reofferLines l s).irq = s.irq ∧
    (reofferLines l s).regions = s.regions ∧ (reofferLines l s).ports = s.ports ∧
    (reofferLines l s).arbiter = s.arbiter ∧ (reofferLines l s).ctl = s.ctl ∧
    (reofferLines l s).cmd = s.cmd ∧ (reofferLines l s).counters = s.counters ∧
    (reofferLines l s).responses = s.responses ∧ (reofferLines l s).freeReads = s.freeReads ∧
    (reofferLines l s).pending = s.pending := by
  induction l generalizing s with
  | nil => simp [reofferLines]
  | cons k ks ih =>
    simp only [reofferLines]
    (repeat' split) <;> simp [ih]

@[simp] theorem State.reoffer_frame (s : State) :
    (s.reoffer).pins = s.pins ∧ (s.reoffer).aif = s.aif ∧ (s.reoffer).lrt = s.lrt ∧
    (s.reoffer).pool = s.pool ∧ (s.reoffer).copy = s.copy ∧ (s.reoffer).olt = s.olt ∧
    (s.reoffer).policy = s.policy ∧ (s.reoffer).patrol = s.patrol ∧ (s.reoffer).erq = s.erq ∧
    (s.reoffer).irq = s.irq ∧ (s.reoffer).regions = s.regions ∧ (s.reoffer).ports = s.ports ∧
    (s.reoffer).arbiter = s.arbiter ∧ (s.reoffer).ctl = s.ctl ∧ (s.reoffer).cmd = s.cmd ∧
    (s.reoffer).counters = s.counters ∧ (s.reoffer).responses = s.responses ∧
    (s.reoffer).freeReads = s.freeReads ∧ (s.reoffer).pending = s.pending := by
  unfold State.reoffer
  simp

@[simp] theorem nominateLines_frame (l : List Nat) (s : State) :
    (nominateLines l s).pins = s.pins ∧ (nominateLines l s).aif = s.aif ∧ (nominateLines l s).lrt = s.lrt ∧
    (nominateLines l s).pool = s.pool ∧ (nominateLines l s).copy = s.copy ∧
    (nominateLines l s).olt = s.olt ∧ (nominateLines l s).policy = s.policy ∧
    (nominateLines l s).patrol = s.patrol ∧ (nominateLines l s).erq = s.erq ∧
    (nominateLines l s).irq = s.irq ∧ (nominateLines l s).regions = s.regions ∧
    (nominateLines l s).ports = s.ports ∧ (nominateLines l s).arbiter = s.arbiter ∧
    (nominateLines l s).ctl = s.ctl ∧ (nominateLines l s).cmd = s.cmd ∧
    (nominateLines l s).counters = s.counters ∧ (nominateLines l s).responses = s.responses ∧
    (nominateLines l s).freeReads = s.freeReads ∧ (nominateLines l s).pending = s.pending := by
  induction l generalizing s with
  | nil => simp [nominateLines]
  | cons k ks ih =>
    simp only [nominateLines]
    simp [ih]

@[simp] theorem State.setThreshold_frame (s : State) (n : Nat) :
    (s.setThreshold n).pins = s.pins ∧ (s.setThreshold n).aif = s.aif ∧ (s.setThreshold n).lrt = s.lrt ∧
    (s.setThreshold n).pool = s.pool ∧ (s.setThreshold n).copy = s.copy ∧ (s.setThreshold n).olt = s.olt ∧
    (s.setThreshold n).policy = s.policy ∧ (s.setThreshold n).patrol = s.patrol ∧
    (s.setThreshold n).erq = s.erq ∧ (s.setThreshold n).irq = s.irq ∧
    (s.setThreshold n).regions = s.regions ∧ (s.setThreshold n).ports = s.ports ∧
    (s.setThreshold n).arbiter = s.arbiter ∧ (s.setThreshold n).ctl = s.ctl ∧
    (s.setThreshold n).cmd = s.cmd ∧ (s.setThreshold n).counters = s.counters ∧
    (s.setThreshold n).responses = s.responses ∧ (s.setThreshold n).freeReads = s.freeReads ∧
    (s.setThreshold n).pending = s.pending := by
  unfold State.setThreshold
  simp

@[simp] theorem State.decaySuspects_frame (s : State) :
    (s.decaySuspects).pins = s.pins ∧ (s.decaySuspects).aif = s.aif ∧ (s.decaySuspects).lrt = s.lrt ∧
    (s.decaySuspects).pool = s.pool ∧ (s.decaySuspects).copy = s.copy ∧ (s.decaySuspects).olt = s.olt ∧
    (s.decaySuspects).policy = s.policy ∧ (s.decaySuspects).rtq = s.rtq ∧
    (s.decaySuspects).patrol = s.patrol ∧ (s.decaySuspects).erq = s.erq ∧ (s.decaySuspects).irq = s.irq ∧
    (s.decaySuspects).regions = s.regions ∧ (s.decaySuspects).ports = s.ports ∧
    (s.decaySuspects).arbiter = s.arbiter ∧ (s.decaySuspects).ctl = s.ctl ∧ (s.decaySuspects).cmd = s.cmd ∧
    (s.decaySuspects).counters = s.counters ∧ (s.decaySuspects).responses = s.responses ∧
    (s.decaySuspects).freeReads = s.freeReads ∧ (s.decaySuspects).pending = s.pending := by
  unfold State.decaySuspects
  simp

@[simp] theorem State.clearWait_frame (s : State) :
    (s.clearWait).pins = s.pins ∧ (s.clearWait).aif = s.aif ∧ (s.clearWait).lrt = s.lrt ∧
    (s.clearWait).pool = s.pool ∧ (s.clearWait).copy = s.copy ∧ (s.clearWait).olt = s.olt ∧
    (s.clearWait).policy = s.policy ∧ (s.clearWait).suspects = s.suspects ∧ (s.clearWait).rtq = s.rtq ∧
    (s.clearWait).patrol = s.patrol ∧ (s.clearWait).erq = s.erq ∧ (s.clearWait).irq = s.irq ∧
    (s.clearWait).regions = s.regions ∧ (s.clearWait).ports = s.ports ∧ (s.clearWait).ctl = s.ctl ∧
    (s.clearWait).cmd = s.cmd ∧ (s.clearWait).counters = s.counters ∧
    (s.clearWait).responses = s.responses ∧ (s.clearWait).freeReads = s.freeReads ∧
    (s.clearWait).pending = s.pending := by
  unfold State.clearWait
  simp

@[simp] theorem State.endScrub_frame (s : State) :
    (s.endScrub).pins = s.pins ∧ (s.endScrub).aif = s.aif ∧ (s.endScrub).lrt = s.lrt ∧
    (s.endScrub).pool = s.pool ∧ (s.endScrub).copy = s.copy ∧ (s.endScrub).olt = s.olt ∧
    (s.endScrub).policy = s.policy ∧ (s.endScrub).suspects = s.suspects ∧ (s.endScrub).rtq = s.rtq ∧
    (s.endScrub).erq = s.erq ∧ (s.endScrub).regions = s.regions ∧ (s.endScrub).ports = s.ports ∧
    (s.endScrub).arbiter = s.arbiter ∧ (s.endScrub).ctl = s.ctl ∧ (s.endScrub).counters = s.counters ∧
    (s.endScrub).responses = s.responses ∧ (s.endScrub).freeReads = s.freeReads ∧
    (s.endScrub).pending = s.pending := by
  unfold State.endScrub
  simp

@[simp] theorem State.scrubStep_frame (s : State) :
    (s.scrubStep).pins = s.pins ∧ (s.scrubStep).aif = s.aif ∧ (s.scrubStep).lrt = s.lrt ∧
    (s.scrubStep).pool = s.pool ∧ (s.scrubStep).copy = s.copy ∧ (s.scrubStep).olt = s.olt ∧
    (s.scrubStep).policy = s.policy ∧ (s.scrubStep).suspects = s.suspects ∧ (s.scrubStep).rtq = s.rtq ∧
    (s.scrubStep).erq = s.erq ∧ (s.scrubStep).regions = s.regions ∧ (s.scrubStep).ports = s.ports ∧
    (s.scrubStep).arbiter = s.arbiter ∧ (s.scrubStep).ctl = s.ctl ∧ (s.scrubStep).counters = s.counters ∧
    (s.scrubStep).responses = s.responses ∧ (s.scrubStep).freeReads = s.freeReads ∧
    (s.scrubStep).pending = s.pending := by
  unfold State.scrubStep
  (repeat' split) <;> simp

@[simp] theorem State.patrolEntryRemoved_frame (s : State) :
    (s.patrolEntryRemoved).pins = s.pins ∧ (s.patrolEntryRemoved).aif = s.aif ∧
    (s.patrolEntryRemoved).lrt = s.lrt ∧ (s.patrolEntryRemoved).pool = s.pool ∧
    (s.patrolEntryRemoved).copy = s.copy ∧ (s.patrolEntryRemoved).olt = s.olt ∧
    (s.patrolEntryRemoved).policy = s.policy ∧ (s.patrolEntryRemoved).suspects = s.suspects ∧
    (s.patrolEntryRemoved).rtq = s.rtq ∧ (s.patrolEntryRemoved).erq = s.erq ∧
    (s.patrolEntryRemoved).regions = s.regions ∧ (s.patrolEntryRemoved).ports = s.ports ∧
    (s.patrolEntryRemoved).arbiter = s.arbiter ∧ (s.patrolEntryRemoved).ctl = s.ctl ∧
    (s.patrolEntryRemoved).counters = s.counters ∧ (s.patrolEntryRemoved).responses = s.responses ∧
    (s.patrolEntryRemoved).freeReads = s.freeReads ∧ (s.patrolEntryRemoved).pending = s.pending := by
  unfold State.patrolEntryRemoved
  (repeat' split) <;> simp

@[simp] theorem State.endSweep_frame (s : State) :
    (s.endSweep).pins = s.pins ∧ (s.endSweep).aif = s.aif ∧ (s.endSweep).lrt = s.lrt ∧
    (s.endSweep).pool = s.pool ∧ (s.endSweep).copy = s.copy ∧ (s.endSweep).olt = s.olt ∧
    (s.endSweep).policy = s.policy ∧ (s.endSweep).rtq = s.rtq ∧ (s.endSweep).regions = s.regions ∧
    (s.endSweep).ports = s.ports ∧ (s.endSweep).arbiter = s.arbiter ∧ (s.endSweep).ctl = s.ctl ∧
    (s.endSweep).cmd = s.cmd ∧ (s.endSweep).responses = s.responses ∧
    (s.endSweep).freeReads = s.freeReads ∧ (s.endSweep).pending = s.pending := by
  unfold State.endSweep
  (repeat' (first | split | dsimp only)) <;> simp

@[simp] theorem State.chooseBackground_frame (s : State) :
    (s.chooseBackground).pins = s.pins ∧ (s.chooseBackground).aif = s.aif ∧
    (s.chooseBackground).lrt = s.lrt ∧ (s.chooseBackground).pool = s.pool ∧
    (s.chooseBackground).copy = s.copy ∧ (s.chooseBackground).olt = s.olt ∧
    (s.chooseBackground).policy = s.policy ∧ (s.chooseBackground).rtq = s.rtq ∧
    (s.chooseBackground).regions = s.regions ∧ (s.chooseBackground).ports = s.ports ∧
    (s.chooseBackground).arbiter = s.arbiter ∧ (s.chooseBackground).ctl = s.ctl ∧
    (s.chooseBackground).cmd = s.cmd ∧ (s.chooseBackground).responses = s.responses ∧
    (s.chooseBackground).freeReads = s.freeReads ∧ (s.chooseBackground).pending = s.pending := by
  unfold State.chooseBackground
  (repeat' split) <;> simp

@[simp] theorem State.timerExpiry_frame (s : State) :
    (s.timerExpiry).pins = s.pins ∧ (s.timerExpiry).aif = s.aif ∧ (s.timerExpiry).lrt = s.lrt ∧
    (s.timerExpiry).pool = s.pool ∧ (s.timerExpiry).copy = s.copy ∧ (s.timerExpiry).olt = s.olt ∧
    (s.timerExpiry).policy = s.policy ∧ (s.timerExpiry).rtq = s.rtq ∧ (s.timerExpiry).regions = s.regions ∧
    (s.timerExpiry).ports = s.ports ∧ (s.timerExpiry).arbiter = s.arbiter ∧ (s.timerExpiry).ctl = s.ctl ∧
    (s.timerExpiry).cmd = s.cmd ∧ (s.timerExpiry).responses = s.responses ∧
    (s.timerExpiry).freeReads = s.freeReads ∧ (s.timerExpiry).pending = s.pending := by
  unfold State.timerExpiry
  (repeat' split) <;> simp

@[simp] theorem State.patrolLeaveRunning_frame (s : State) :
    (s.patrolLeaveRunning).pins = s.pins ∧ (s.patrolLeaveRunning).aif = s.aif ∧
    (s.patrolLeaveRunning).lrt = s.lrt ∧ (s.patrolLeaveRunning).pool = s.pool ∧
    (s.patrolLeaveRunning).copy = s.copy ∧ (s.patrolLeaveRunning).olt = s.olt ∧
    (s.patrolLeaveRunning).policy = s.policy ∧ (s.patrolLeaveRunning).suspects = s.suspects ∧
    (s.patrolLeaveRunning).rtq = s.rtq ∧ (s.patrolLeaveRunning).erq = s.erq ∧
    (s.patrolLeaveRunning).irq = s.irq ∧ (s.patrolLeaveRunning).regions = s.regions ∧
    (s.patrolLeaveRunning).ports = s.ports ∧ (s.patrolLeaveRunning).ctl = s.ctl ∧
    (s.patrolLeaveRunning).cmd = s.cmd ∧ (s.patrolLeaveRunning).counters = s.counters ∧
    (s.patrolLeaveRunning).responses = s.responses ∧ (s.patrolLeaveRunning).freeReads = s.freeReads ∧
    (s.patrolLeaveRunning).pending = s.pending := by
  unfold State.patrolLeaveRunning
  (repeat' split) <;> simp

@[simp] theorem State.patrolHalt_frame (s : State) :
    (s.patrolHalt).pins = s.pins ∧ (s.patrolHalt).aif = s.aif ∧ (s.patrolHalt).lrt = s.lrt ∧
    (s.patrolHalt).pool = s.pool ∧ (s.patrolHalt).copy = s.copy ∧ (s.patrolHalt).olt = s.olt ∧
    (s.patrolHalt).policy = s.policy ∧ (s.patrolHalt).suspects = s.suspects ∧ (s.patrolHalt).rtq = s.rtq ∧
    (s.patrolHalt).erq = s.erq ∧ (s.patrolHalt).regions = s.regions ∧ (s.patrolHalt).ports = s.ports ∧
    (s.patrolHalt).ctl = s.ctl ∧ (s.patrolHalt).counters = s.counters ∧
    (s.patrolHalt).responses = s.responses ∧ (s.patrolHalt).freeReads = s.freeReads ∧
    (s.patrolHalt).pending = s.pending := by
  unfold State.patrolHalt
  (repeat' (first | split | dsimp only)) <;> simp

@[simp] theorem State.patrolModeChanged_frame (s : State) :
    (s.patrolModeChanged).pins = s.pins ∧ (s.patrolModeChanged).aif = s.aif ∧
    (s.patrolModeChanged).lrt = s.lrt ∧ (s.patrolModeChanged).pool = s.pool ∧
    (s.patrolModeChanged).copy = s.copy ∧ (s.patrolModeChanged).olt = s.olt ∧
    (s.patrolModeChanged).policy = s.policy ∧ (s.patrolModeChanged).suspects = s.suspects ∧
    (s.patrolModeChanged).rtq = s.rtq ∧ (s.patrolModeChanged).erq = s.erq ∧
    (s.patrolModeChanged).irq = s.irq ∧ (s.patrolModeChanged).regions = s.regions ∧
    (s.patrolModeChanged).ports = s.ports ∧ (s.patrolModeChanged).ctl = s.ctl ∧
    (s.patrolModeChanged).cmd = s.cmd ∧ (s.patrolModeChanged).counters = s.counters ∧
    (s.patrolModeChanged).responses = s.responses ∧ (s.patrolModeChanged).freeReads = s.freeReads ∧
    (s.patrolModeChanged).pending = s.pending := by
  unfold State.patrolModeChanged
  (repeat' split) <;> simp

@[simp] theorem State.writePatrolCfg_frame (s : State) (v : Word32) :
    (s.writePatrolCfg v).pins = s.pins ∧ (s.writePatrolCfg v).aif = s.aif ∧
    (s.writePatrolCfg v).lrt = s.lrt ∧ (s.writePatrolCfg v).pool = s.pool ∧
    (s.writePatrolCfg v).copy = s.copy ∧ (s.writePatrolCfg v).olt = s.olt ∧
    (s.writePatrolCfg v).policy = s.policy ∧ (s.writePatrolCfg v).suspects = s.suspects ∧
    (s.writePatrolCfg v).rtq = s.rtq ∧ (s.writePatrolCfg v).erq = s.erq ∧
    (s.writePatrolCfg v).irq = s.irq ∧ (s.writePatrolCfg v).regions = s.regions ∧
    (s.writePatrolCfg v).ports = s.ports ∧ (s.writePatrolCfg v).ctl = s.ctl ∧
    (s.writePatrolCfg v).cmd = s.cmd ∧ (s.writePatrolCfg v).counters = s.counters ∧
    (s.writePatrolCfg v).responses = s.responses ∧ (s.writePatrolCfg v).freeReads = s.freeReads ∧
    (s.writePatrolCfg v).pending = s.pending := by
  unfold State.writePatrolCfg
  (repeat' (first | split | dsimp only)) <;> simp

@[simp] theorem State.startScrub_frame (s : State) (first last : Nat) :
    (s.startScrub first last).pins = s.pins ∧ (s.startScrub first last).aif = s.aif ∧
    (s.startScrub first last).lrt = s.lrt ∧ (s.startScrub first last).pool = s.pool ∧
    (s.startScrub first last).copy = s.copy ∧ (s.startScrub first last).olt = s.olt ∧
    (s.startScrub first last).policy = s.policy ∧ (s.startScrub first last).suspects = s.suspects ∧
    (s.startScrub first last).rtq = s.rtq ∧ (s.startScrub first last).erq = s.erq ∧
    (s.startScrub first last).regions = s.regions ∧ (s.startScrub first last).ports = s.ports ∧
    (s.startScrub first last).ctl = s.ctl ∧ (s.startScrub first last).counters = s.counters ∧
    (s.startScrub first last).responses = s.responses ∧ (s.startScrub first last).freeReads = s.freeReads ∧
    (s.startScrub first last).pending = s.pending := by
  unfold State.startScrub
  (repeat' (first | split | dsimp only)) <;> simp

@[simp] theorem State.patrolPassOver_frame (s : State) :
    (s.patrolPassOver).pins = s.pins ∧ (s.patrolPassOver).aif = s.aif ∧ (s.patrolPassOver).lrt = s.lrt ∧
    (s.patrolPassOver).pool = s.pool ∧ (s.patrolPassOver).copy = s.copy ∧ (s.patrolPassOver).olt = s.olt ∧
    (s.patrolPassOver).policy = s.policy ∧ (s.patrolPassOver).suspects = s.suspects ∧
    (s.patrolPassOver).rtq = s.rtq ∧ (s.patrolPassOver).erq = s.erq ∧
    (s.patrolPassOver).regions = s.regions ∧ (s.patrolPassOver).ports = s.ports ∧
    (s.patrolPassOver).arbiter = s.arbiter ∧ (s.patrolPassOver).ctl = s.ctl ∧
    (s.patrolPassOver).counters = s.counters ∧ (s.patrolPassOver).responses = s.responses ∧
    (s.patrolPassOver).freeReads = s.freeReads ∧ (s.patrolPassOver).pending = s.pending := by
  unfold State.patrolPassOver
  (repeat' split) <;> simp

@[simp] theorem State.patrolTakeOff_frame (s : State) (line : Nat) :
    (s.patrolTakeOff line).pins = s.pins ∧ (s.patrolTakeOff line).aif = s.aif ∧
    (s.patrolTakeOff line).lrt = s.lrt ∧ (s.patrolTakeOff line).pool = s.pool ∧
    (s.patrolTakeOff line).copy = s.copy ∧ (s.patrolTakeOff line).policy = s.policy ∧
    (s.patrolTakeOff line).suspects = s.suspects ∧ (s.patrolTakeOff line).rtq = s.rtq ∧
    (s.patrolTakeOff line).erq = s.erq ∧ (s.patrolTakeOff line).irq = s.irq ∧
    (s.patrolTakeOff line).regions = s.regions ∧ (s.patrolTakeOff line).ports = s.ports ∧
    (s.patrolTakeOff line).arbiter = s.arbiter ∧ (s.patrolTakeOff line).ctl = s.ctl ∧
    (s.patrolTakeOff line).cmd = s.cmd ∧ (s.patrolTakeOff line).counters = s.counters ∧
    (s.patrolTakeOff line).responses = s.responses ∧ (s.patrolTakeOff line).freeReads = s.freeReads ∧
    (s.patrolTakeOff line).pending = s.pending := by
  unfold State.patrolTakeOff
  simp

@[simp] theorem State.grantPatrol_frame (s : State) :
    (s.grantPatrol).pins = s.pins ∧ (s.grantPatrol).aif = s.aif ∧ (s.grantPatrol).lrt = s.lrt ∧
    (s.grantPatrol).pool = s.pool ∧ (s.grantPatrol).copy = s.copy ∧ (s.grantPatrol).policy = s.policy ∧
    (s.grantPatrol).suspects = s.suspects ∧ (s.grantPatrol).rtq = s.rtq ∧ (s.grantPatrol).erq = s.erq ∧
    (s.grantPatrol).regions = s.regions ∧ (s.grantPatrol).ports = s.ports ∧ (s.grantPatrol).ctl = s.ctl ∧
    (s.grantPatrol).counters = s.counters ∧ (s.grantPatrol).responses = s.responses ∧
    (s.grantPatrol).freeReads = s.freeReads ∧ (s.grantPatrol).pending = s.pending := by
  unfold State.grantPatrol
  (repeat' split) <;> simp

@[simp] theorem State.beginMove_frame (s : State) (line : Nat) (origin : RemapOrigin) (t : Nat) :
    (s.beginMove line origin t).pins = s.pins ∧ (s.beginMove line origin t).aif = s.aif ∧
    (s.beginMove line origin t).copy = s.copy ∧ (s.beginMove line origin t).olt = s.olt ∧
    (s.beginMove line origin t).policy = s.policy ∧ (s.beginMove line origin t).suspects = s.suspects ∧
    (s.beginMove line origin t).rtq = s.rtq ∧ (s.beginMove line origin t).patrol = s.patrol ∧
    (s.beginMove line origin t).erq = s.erq ∧ (s.beginMove line origin t).regions = s.regions ∧
    (s.beginMove line origin t).ports = s.ports ∧ (s.beginMove line origin t).arbiter = s.arbiter ∧
    (s.beginMove line origin t).ctl = s.ctl ∧ (s.beginMove line origin t).cmd = s.cmd ∧
    (s.beginMove line origin t).counters = s.counters ∧
    (s.beginMove line origin t).responses = s.responses ∧
    (s.beginMove line origin t).freeReads = s.freeReads ∧ (s.beginMove line origin t).pending = s.pending := by
  unfold State.beginMove
  (repeat' split) <;> simp

@[simp] theorem State.replaceTarget_frame (s : State) (line failed t : Nat) :
    (s.replaceTarget line failed t).pins = s.pins ∧ (s.replaceTarget line failed t).aif = s.aif ∧
    (s.replaceTarget line failed t).copy = s.copy ∧ (s.replaceTarget line failed t).olt = s.olt ∧
    (s.replaceTarget line failed t).policy = s.policy ∧
    (s.replaceTarget line failed t).suspects = s.suspects ∧ (s.replaceTarget line failed t).rtq = s.rtq ∧
    (s.replaceTarget line failed t).patrol = s.patrol ∧ (s.replaceTarget line failed t).erq = s.erq ∧
    (s.replaceTarget line failed t).regions = s.regions ∧ (s.replaceTarget line failed t).ports = s.ports ∧
    (s.replaceTarget line failed t).arbiter = s.arbiter ∧ (s.replaceTarget line failed t).ctl = s.ctl ∧
    (s.replaceTarget line failed t).cmd = s.cmd ∧ (s.replaceTarget line failed t).counters = s.counters ∧
    (s.replaceTarget line failed t).responses = s.responses ∧
    (s.replaceTarget line failed t).freeReads = s.freeReads ∧
    (s.replaceTarget line failed t).pending = s.pending := by
  unfold State.replaceTarget
  (repeat' split) <;> simp

@[simp] theorem State.commitEntry_frame (s : State) (line : Nat) :
    (s.commitEntry line).pins = s.pins ∧ (s.commitEntry line).aif = s.aif ∧
    (s.commitEntry line).copy = s.copy ∧ (s.commitEntry line).olt = s.olt ∧
    (s.commitEntry line).policy = s.policy ∧ (s.commitEntry line).suspects = s.suspects ∧
    (s.commitEntry line).rtq = s.rtq ∧ (s.commitEntry line).patrol = s.patrol ∧
    (s.commitEntry line).erq = s.erq ∧ (s.commitEntry line).irq = s.irq ∧
    (s.commitEntry line).regions = s.regions ∧ (s.commitEntry line).ports = s.ports ∧
    (s.commitEntry line).arbiter = s.arbiter ∧ (s.commitEntry line).ctl = s.ctl ∧
    (s.commitEntry line).cmd = s.cmd ∧ (s.commitEntry line).counters = s.counters ∧
    (s.commitEntry line).responses = s.responses ∧ (s.commitEntry line).freeReads = s.freeReads ∧
    (s.commitEntry line).pending = s.pending := by
  unfold State.commitEntry
  (repeat' split) <;> simp

@[simp] theorem State.abortEntry_frame (s : State) (line : Nat) (target : SpareState) :
    (s.abortEntry line target).pins = s.pins ∧ (s.abortEntry line target).aif = s.aif ∧
    (s.abortEntry line target).copy = s.copy ∧ (s.abortEntry line target).olt = s.olt ∧
    (s.abortEntry line target).policy = s.policy ∧ (s.abortEntry line target).suspects = s.suspects ∧
    (s.abortEntry line target).rtq = s.rtq ∧ (s.abortEntry line target).patrol = s.patrol ∧
    (s.abortEntry line target).erq = s.erq ∧ (s.abortEntry line target).irq = s.irq ∧
    (s.abortEntry line target).regions = s.regions ∧ (s.abortEntry line target).ports = s.ports ∧
    (s.abortEntry line target).arbiter = s.arbiter ∧ (s.abortEntry line target).ctl = s.ctl ∧
    (s.abortEntry line target).cmd = s.cmd ∧ (s.abortEntry line target).counters = s.counters ∧
    (s.abortEntry line target).responses = s.responses ∧
    (s.abortEntry line target).freeReads = s.freeReads ∧ (s.abortEntry line target).pending = s.pending := by
  unfold State.abortEntry
  (repeat' split) <;> simp

@[simp] theorem State.completeItem_frame (s : State) (i : RetireItem) (r : CmdResult) :
    (s.completeItem i r).pins = s.pins ∧ (s.completeItem i r).aif = s.aif ∧
    (s.completeItem i r).lrt = s.lrt ∧ (s.completeItem i r).pool = s.pool ∧
    (s.completeItem i r).copy = s.copy ∧ (s.completeItem i r).olt = s.olt ∧
    (s.completeItem i r).policy = s.policy ∧ (s.completeItem i r).suspects = s.suspects ∧
    (s.completeItem i r).rtq = s.rtq ∧ (s.completeItem i r).patrol = s.patrol ∧
    (s.completeItem i r).erq = s.erq ∧ (s.completeItem i r).regions = s.regions ∧
    (s.completeItem i r).ports = s.ports ∧ (s.completeItem i r).arbiter = s.arbiter ∧
    (s.completeItem i r).ctl = s.ctl ∧ (s.completeItem i r).counters = s.counters ∧
    (s.completeItem i r).responses = s.responses ∧ (s.completeItem i r).freeReads = s.freeReads ∧
    (s.completeItem i r).pending = s.pending := by
  unfold State.completeItem
  (repeat' split) <;> simp

@[simp] theorem State.moveNoSpare_frame (s : State) (i : RetireItem) :
    (s.moveNoSpare i).pins = s.pins ∧ (s.moveNoSpare i).aif = s.aif ∧ (s.moveNoSpare i).lrt = s.lrt ∧
    (s.moveNoSpare i).pool = s.pool ∧ (s.moveNoSpare i).copy = s.copy ∧ (s.moveNoSpare i).olt = s.olt ∧
    (s.moveNoSpare i).policy = s.policy ∧ (s.moveNoSpare i).suspects = s.suspects ∧
    (s.moveNoSpare i).rtq = s.rtq ∧ (s.moveNoSpare i).patrol = s.patrol ∧
    (s.moveNoSpare i).regions = s.regions ∧ (s.moveNoSpare i).ports = s.ports ∧
    (s.moveNoSpare i).arbiter = s.arbiter ∧ (s.moveNoSpare i).ctl = s.ctl ∧
    (s.moveNoSpare i).responses = s.responses ∧ (s.moveNoSpare i).freeReads = s.freeReads ∧
    (s.moveNoSpare i).pending = s.pending := by
  unfold State.moveNoSpare
  simp

@[simp] theorem State.startMove_frame (s : State) (i : RetireItem) :
    (s.startMove i).pins = s.pins ∧ (s.startMove i).aif = s.aif ∧ (s.startMove i).olt = s.olt ∧
    (s.startMove i).policy = s.policy ∧ (s.startMove i).suspects = s.suspects ∧
    (s.startMove i).rtq = s.rtq ∧ (s.startMove i).patrol = s.patrol ∧ (s.startMove i).regions = s.regions ∧
    (s.startMove i).ports = s.ports ∧ (s.startMove i).arbiter = s.arbiter ∧ (s.startMove i).ctl = s.ctl ∧
    (s.startMove i).responses = s.responses ∧ (s.startMove i).freeReads = s.freeReads ∧
    (s.startMove i).pending = s.pending := by
  unfold State.startMove
  (repeat' (first | split | dsimp only)) <;> simp

@[simp] theorem State.startRelease_frame (s : State) (i : RetireItem) :
    (s.startRelease i).pins = s.pins ∧ (s.startRelease i).aif = s.aif ∧ (s.startRelease i).pool = s.pool ∧
    (s.startRelease i).olt = s.olt ∧ (s.startRelease i).policy = s.policy ∧
    (s.startRelease i).suspects = s.suspects ∧ (s.startRelease i).rtq = s.rtq ∧
    (s.startRelease i).patrol = s.patrol ∧ (s.startRelease i).erq = s.erq ∧
    (s.startRelease i).regions = s.regions ∧ (s.startRelease i).ports = s.ports ∧
    (s.startRelease i).arbiter = s.arbiter ∧ (s.startRelease i).ctl = s.ctl ∧
    (s.startRelease i).counters = s.counters ∧ (s.startRelease i).responses = s.responses ∧
    (s.startRelease i).freeReads = s.freeReads ∧ (s.startRelease i).pending = s.pending := by
  unfold State.startRelease
  (repeat' (first | split | dsimp only)) <;> simp

@[simp] theorem State.startItem_frame (s : State) :
    (s.startItem).pins = s.pins ∧ (s.startItem).aif = s.aif ∧ (s.startItem).olt = s.olt ∧
    (s.startItem).policy = s.policy ∧ (s.startItem).patrol = s.patrol ∧ (s.startItem).regions = s.regions ∧
    (s.startItem).ports = s.ports ∧ (s.startItem).arbiter = s.arbiter ∧ (s.startItem).ctl = s.ctl ∧
    (s.startItem).responses = s.responses ∧ (s.startItem).freeReads = s.freeReads ∧
    (s.startItem).pending = s.pending := by
  unfold State.startItem
  (repeat' (first | split | dsimp only)) <;> simp

@[simp] theorem State.issueTarget_frame (s : State) :
    (s.issueTarget).pins = s.pins ∧ (s.issueTarget).lrt = s.lrt ∧ (s.issueTarget).pool = s.pool ∧
    (s.issueTarget).olt = s.olt ∧ (s.issueTarget).policy = s.policy ∧
    (s.issueTarget).suspects = s.suspects ∧ (s.issueTarget).rtq = s.rtq ∧
    (s.issueTarget).patrol = s.patrol ∧ (s.issueTarget).erq = s.erq ∧ (s.issueTarget).irq = s.irq ∧
    (s.issueTarget).regions = s.regions ∧ (s.issueTarget).ports = s.ports ∧
    (s.issueTarget).arbiter = s.arbiter ∧ (s.issueTarget).ctl = s.ctl ∧ (s.issueTarget).cmd = s.cmd ∧
    (s.issueTarget).counters = s.counters ∧ (s.issueTarget).responses = s.responses ∧
    (s.issueTarget).freeReads = s.freeReads ∧ (s.issueTarget).pending = s.pending := by
  unfold State.issueTarget
  (repeat' (first | split | dsimp only)) <;> simp

@[simp] theorem State.issueVerify_frame (s : State) :
    (s.issueVerify).pins = s.pins ∧ (s.issueVerify).lrt = s.lrt ∧ (s.issueVerify).pool = s.pool ∧
    (s.issueVerify).olt = s.olt ∧ (s.issueVerify).policy = s.policy ∧
    (s.issueVerify).suspects = s.suspects ∧ (s.issueVerify).rtq = s.rtq ∧
    (s.issueVerify).patrol = s.patrol ∧ (s.issueVerify).erq = s.erq ∧ (s.issueVerify).irq = s.irq ∧
    (s.issueVerify).regions = s.regions ∧ (s.issueVerify).ports = s.ports ∧
    (s.issueVerify).arbiter = s.arbiter ∧ (s.issueVerify).ctl = s.ctl ∧ (s.issueVerify).cmd = s.cmd ∧
    (s.issueVerify).counters = s.counters ∧ (s.issueVerify).responses = s.responses ∧
    (s.issueVerify).freeReads = s.freeReads ∧ (s.issueVerify).pending = s.pending := by
  unfold State.issueVerify
  (repeat' (first | split | dsimp only)) <;> simp

@[simp] theorem State.endItem_frame (s : State) (i : RetireItem) (r : CmdResult) :
    (s.endItem i r).pins = s.pins ∧ (s.endItem i r).aif = s.aif ∧ (s.endItem i r).lrt = s.lrt ∧
    (s.endItem i r).pool = s.pool ∧ (s.endItem i r).policy = s.policy ∧
    (s.endItem i r).suspects = s.suspects ∧ (s.endItem i r).rtq = s.rtq ∧
    (s.endItem i r).patrol = s.patrol ∧ (s.endItem i r).erq = s.erq ∧ (s.endItem i r).regions = s.regions ∧
    (s.endItem i r).ports = s.ports ∧ (s.endItem i r).arbiter = s.arbiter ∧ (s.endItem i r).ctl = s.ctl ∧
    (s.endItem i r).counters = s.counters ∧ (s.endItem i r).responses = s.responses ∧
    (s.endItem i r).freeReads = s.freeReads ∧ (s.endItem i r).pending = s.pending := by
  unfold State.endItem
  simp

@[simp] theorem State.commit_frame (s : State) (i : RetireItem) :
    (s.commit i).pins = s.pins ∧ (s.commit i).aif = s.aif ∧ (s.commit i).policy = s.policy ∧
    (s.commit i).rtq = s.rtq ∧ (s.commit i).patrol = s.patrol ∧ (s.commit i).regions = s.regions ∧
    (s.commit i).ports = s.ports ∧ (s.commit i).arbiter = s.arbiter ∧ (s.commit i).ctl = s.ctl ∧
    (s.commit i).responses = s.responses ∧ (s.commit i).freeReads = s.freeReads ∧
    (s.commit i).pending = s.pending := by
  unfold State.commit
  (repeat' (first | split | dsimp only)) <;> simp

@[simp] theorem State.moveVerifyFailed_frame (s : State) (i : RetireItem) (t : Nat) :
    (s.moveVerifyFailed i t).pins = s.pins ∧ (s.moveVerifyFailed i t).policy = s.policy ∧
    (s.moveVerifyFailed i t).suspects = s.suspects ∧ (s.moveVerifyFailed i t).rtq = s.rtq ∧
    (s.moveVerifyFailed i t).patrol = s.patrol ∧ (s.moveVerifyFailed i t).regions = s.regions ∧
    (s.moveVerifyFailed i t).ports = s.ports ∧ (s.moveVerifyFailed i t).arbiter = s.arbiter ∧
    (s.moveVerifyFailed i t).ctl = s.ctl ∧ (s.moveVerifyFailed i t).responses = s.responses ∧
    (s.moveVerifyFailed i t).freeReads = s.freeReads ∧ (s.moveVerifyFailed i t).pending = s.pending := by
  unfold State.moveVerifyFailed
  (repeat' (first | split | dsimp only)) <;> simp

@[simp] theorem State.releaseVerifyFailed_frame (s : State) (i : RetireItem) :
    (s.releaseVerifyFailed i).pins = s.pins ∧ (s.releaseVerifyFailed i).aif = s.aif ∧
    (s.releaseVerifyFailed i).policy = s.policy ∧ (s.releaseVerifyFailed i).suspects = s.suspects ∧
    (s.releaseVerifyFailed i).rtq = s.rtq ∧ (s.releaseVerifyFailed i).patrol = s.patrol ∧
    (s.releaseVerifyFailed i).regions = s.regions ∧ (s.releaseVerifyFailed i).ports = s.ports ∧
    (s.releaseVerifyFailed i).arbiter = s.arbiter ∧ (s.releaseVerifyFailed i).ctl = s.ctl ∧
    (s.releaseVerifyFailed i).responses = s.responses ∧ (s.releaseVerifyFailed i).freeReads = s.freeReads ∧
    (s.releaseVerifyFailed i).pending = s.pending := by
  unfold State.releaseVerifyFailed
  simp

@[simp] theorem State.verifyFailed_frame (s : State) (i : RetireItem) :
    (s.verifyFailed i).pins = s.pins ∧ (s.verifyFailed i).policy = s.policy ∧
    (s.verifyFailed i).suspects = s.suspects ∧ (s.verifyFailed i).rtq = s.rtq ∧
    (s.verifyFailed i).patrol = s.patrol ∧ (s.verifyFailed i).regions = s.regions ∧
    (s.verifyFailed i).ports = s.ports ∧ (s.verifyFailed i).arbiter = s.arbiter ∧
    (s.verifyFailed i).ctl = s.ctl ∧ (s.verifyFailed i).responses = s.responses ∧
    (s.verifyFailed i).freeReads = s.freeReads ∧ (s.verifyFailed i).pending = s.pending := by
  unfold State.verifyFailed
  (repeat' split) <;> simp

@[simp] theorem State.verifyGood_frame (s : State) (i : RetireItem) :
    (s.verifyGood i).pins = s.pins ∧ (s.verifyGood i).policy = s.policy ∧ (s.verifyGood i).rtq = s.rtq ∧
    (s.verifyGood i).patrol = s.patrol ∧ (s.verifyGood i).regions = s.regions ∧
    (s.verifyGood i).ports = s.ports ∧ (s.verifyGood i).arbiter = s.arbiter ∧
    (s.verifyGood i).ctl = s.ctl ∧ (s.verifyGood i).responses = s.responses ∧
    (s.verifyGood i).freeReads = s.freeReads ∧ (s.verifyGood i).pending = s.pending := by
  unfold State.verifyGood
  (repeat' split) <;> simp

@[simp] theorem State.copyHalt_frame (s : State) :
    (s.copyHalt).pins = s.pins ∧ (s.copyHalt).aif = s.aif ∧ (s.copyHalt).policy = s.policy ∧
    (s.copyHalt).suspects = s.suspects ∧ (s.copyHalt).rtq = s.rtq ∧ (s.copyHalt).patrol = s.patrol ∧
    (s.copyHalt).erq = s.erq ∧ (s.copyHalt).regions = s.regions ∧ (s.copyHalt).ports = s.ports ∧
    (s.copyHalt).arbiter = s.arbiter ∧ (s.copyHalt).ctl = s.ctl ∧ (s.copyHalt).counters = s.counters ∧
    (s.copyHalt).responses = s.responses ∧ (s.copyHalt).freeReads = s.freeReads ∧
    (s.copyHalt).pending = s.pending := by
  unfold State.copyHalt
  (repeat' split) <;> simp

@[simp] theorem State.haltPorts_frame (s : State) :
    (s.haltPorts).pins = s.pins ∧ (s.haltPorts).aif = s.aif ∧ (s.haltPorts).lrt = s.lrt ∧
    (s.haltPorts).pool = s.pool ∧ (s.haltPorts).copy = s.copy ∧ (s.haltPorts).olt = s.olt ∧
    (s.haltPorts).policy = s.policy ∧ (s.haltPorts).suspects = s.suspects ∧ (s.haltPorts).rtq = s.rtq ∧
    (s.haltPorts).patrol = s.patrol ∧ (s.haltPorts).erq = s.erq ∧ (s.haltPorts).irq = s.irq ∧
    (s.haltPorts).regions = s.regions ∧ (s.haltPorts).arbiter = s.arbiter ∧ (s.haltPorts).ctl = s.ctl ∧
    (s.haltPorts).cmd = s.cmd ∧ (s.haltPorts).counters = s.counters ∧
    (s.haltPorts).freeReads = s.freeReads ∧ (s.haltPorts).pending = s.pending := by
  unfold State.haltPorts
  simp

@[simp] theorem removeEntries_frame (l : List Nat) (s : State) :
    (removeEntries l s).pins = s.pins ∧ (removeEntries l s).aif = s.aif ∧ (removeEntries l s).lrt = s.lrt ∧
    (removeEntries l s).pool = s.pool ∧ (removeEntries l s).copy = s.copy ∧
    (removeEntries l s).policy = s.policy ∧ (removeEntries l s).suspects = s.suspects ∧
    (removeEntries l s).rtq = s.rtq ∧ (removeEntries l s).patrol = s.patrol ∧
    (removeEntries l s).erq = s.erq ∧ (removeEntries l s).irq = s.irq ∧
    (removeEntries l s).regions = s.regions ∧ (removeEntries l s).ports = s.ports ∧
    (removeEntries l s).arbiter = s.arbiter ∧ (removeEntries l s).ctl = s.ctl ∧
    (removeEntries l s).cmd = s.cmd ∧ (removeEntries l s).counters = s.counters ∧
    (removeEntries l s).responses = s.responses ∧ (removeEntries l s).freeReads = s.freeReads ∧
    (removeEntries l s).pending = s.pending := by
  induction l generalizing s with
  | nil => simp [removeEntries]
  | cons k ks ih =>
    simp only [removeEntries]
    simp [ih]

@[simp] theorem State.haltTable_frame (s : State) :
    (s.haltTable).pins = s.pins ∧ (s.haltTable).aif = s.aif ∧ (s.haltTable).lrt = s.lrt ∧
    (s.haltTable).pool = s.pool ∧ (s.haltTable).copy = s.copy ∧ (s.haltTable).policy = s.policy ∧
    (s.haltTable).suspects = s.suspects ∧ (s.haltTable).rtq = s.rtq ∧ (s.haltTable).patrol = s.patrol ∧
    (s.haltTable).erq = s.erq ∧ (s.haltTable).irq = s.irq ∧ (s.haltTable).regions = s.regions ∧
    (s.haltTable).ports = s.ports ∧ (s.haltTable).arbiter = s.arbiter ∧ (s.haltTable).ctl = s.ctl ∧
    (s.haltTable).cmd = s.cmd ∧ (s.haltTable).counters = s.counters ∧
    (s.haltTable).responses = s.responses ∧ (s.haltTable).freeReads = s.freeReads ∧
    (s.haltTable).pending = s.pending := by
  unfold State.haltTable
  simp

@[simp] theorem State.haltRtq_frame (s : State) :
    (s.haltRtq).pins = s.pins ∧ (s.haltRtq).aif = s.aif ∧ (s.haltRtq).lrt = s.lrt ∧
    (s.haltRtq).pool = s.pool ∧ (s.haltRtq).copy = s.copy ∧ (s.haltRtq).olt = s.olt ∧
    (s.haltRtq).policy = s.policy ∧ (s.haltRtq).patrol = s.patrol ∧ (s.haltRtq).erq = s.erq ∧
    (s.haltRtq).regions = s.regions ∧ (s.haltRtq).ports = s.ports ∧ (s.haltRtq).arbiter = s.arbiter ∧
    (s.haltRtq).ctl = s.ctl ∧ (s.haltRtq).counters = s.counters ∧ (s.haltRtq).responses = s.responses ∧
    (s.haltRtq).freeReads = s.freeReads ∧ (s.haltRtq).pending = s.pending := by
  unfold State.haltRtq
  (repeat' split) <;> simp

@[simp] theorem State.haltStop_frame (s : State) :
    (s.haltStop).pins = s.pins ∧ (s.haltStop).aif = s.aif ∧ (s.haltStop).lrt = s.lrt ∧
    (s.haltStop).pool = s.pool ∧ (s.haltStop).copy = s.copy ∧ (s.haltStop).olt = s.olt ∧
    (s.haltStop).policy = s.policy ∧ (s.haltStop).suspects = s.suspects ∧ (s.haltStop).rtq = s.rtq ∧
    (s.haltStop).patrol = s.patrol ∧ (s.haltStop).erq = s.erq ∧ (s.haltStop).regions = s.regions ∧
    (s.haltStop).ports = s.ports ∧ (s.haltStop).arbiter = s.arbiter ∧ (s.haltStop).ctl = s.ctl ∧
    (s.haltStop).counters = s.counters ∧ (s.haltStop).responses = s.responses ∧
    (s.haltStop).freeReads = s.freeReads ∧ (s.haltStop).pending = s.pending := by
  unfold State.haltStop
  (repeat' split) <;> simp

@[simp] theorem State.enterHalted_frame (s : State) (line : Nat) :
    (s.enterHalted line).pins = s.pins ∧ (s.enterHalted line).aif = s.aif ∧
    (s.enterHalted line).policy = s.policy ∧ (s.enterHalted line).regions = s.regions ∧
    (s.enterHalted line).freeReads = s.freeReads ∧ (s.enterHalted line).pending = s.pending := by
  unfold State.enterHalted
  simp

@[simp] theorem State.retireOnUe_frame (s : State) (line : Nat) :
    (s.retireOnUe line).pins = s.pins ∧ (s.retireOnUe line).aif = s.aif ∧ (s.retireOnUe line).lrt = s.lrt ∧
    (s.retireOnUe line).pool = s.pool ∧ (s.retireOnUe line).copy = s.copy ∧
    (s.retireOnUe line).olt = s.olt ∧ (s.retireOnUe line).policy = s.policy ∧
    (s.retireOnUe line).suspects = s.suspects ∧ (s.retireOnUe line).patrol = s.patrol ∧
    (s.retireOnUe line).erq = s.erq ∧ (s.retireOnUe line).irq = s.irq ∧
    (s.retireOnUe line).regions = s.regions ∧ (s.retireOnUe line).ports = s.ports ∧
    (s.retireOnUe line).arbiter = s.arbiter ∧ (s.retireOnUe line).ctl = s.ctl ∧
    (s.retireOnUe line).cmd = s.cmd ∧ (s.retireOnUe line).responses = s.responses ∧
    (s.retireOnUe line).freeReads = s.freeReads ∧ (s.retireOnUe line).pending = s.pending := by
  unfold State.retireOnUe
  (repeat' split) <;> simp

@[simp] theorem State.haltOnUe_frame (s : State) (line : Nat) :
    (s.haltOnUe line).pins = s.pins ∧ (s.haltOnUe line).aif = s.aif ∧ (s.haltOnUe line).policy = s.policy ∧
    (s.haltOnUe line).regions = s.regions ∧ (s.haltOnUe line).freeReads = s.freeReads ∧
    (s.haltOnUe line).pending = s.pending := by
  unfold State.haltOnUe
  (repeat' split) <;> simp

@[simp] theorem State.issueEntryRead_frame (s : State) (k : Nat) (e : OpenEntry) (l : Loc) (decoded : Bool) :
    (s.issueEntryRead k e l decoded).pins = s.pins ∧ (s.issueEntryRead k e l decoded).lrt = s.lrt ∧
    (s.issueEntryRead k e l decoded).pool = s.pool ∧ (s.issueEntryRead k e l decoded).copy = s.copy ∧
    (s.issueEntryRead k e l decoded).policy = s.policy ∧
    (s.issueEntryRead k e l decoded).suspects = s.suspects ∧ (s.issueEntryRead k e l decoded).rtq = s.rtq ∧
    (s.issueEntryRead k e l decoded).patrol = s.patrol ∧ (s.issueEntryRead k e l decoded).erq = s.erq ∧
    (s.issueEntryRead k e l decoded).irq = s.irq ∧ (s.issueEntryRead k e l decoded).regions = s.regions ∧
    (s.issueEntryRead k e l decoded).ports = s.ports ∧
    (s.issueEntryRead k e l decoded).arbiter = s.arbiter ∧ (s.issueEntryRead k e l decoded).ctl = s.ctl ∧
    (s.issueEntryRead k e l decoded).cmd = s.cmd ∧ (s.issueEntryRead k e l decoded).counters = s.counters ∧
    (s.issueEntryRead k e l decoded).responses = s.responses ∧
    (s.issueEntryRead k e l decoded).freeReads = s.freeReads ∧
    (s.issueEntryRead k e l decoded).pending = s.pending := by
  unfold State.issueEntryRead
  simp

@[simp] theorem State.serveRead_frame (s : State) (k : Nat) (e : OpenEntry) (port : PortId) (tag : Tag) :
    (s.serveRead k e port tag).pins = s.pins ∧ (s.serveRead k e port tag).aif = s.aif ∧
    (s.serveRead k e port tag).lrt = s.lrt ∧ (s.serveRead k e port tag).pool = s.pool ∧
    (s.serveRead k e port tag).copy = s.copy ∧ (s.serveRead k e port tag).policy = s.policy ∧
    (s.serveRead k e port tag).suspects = s.suspects ∧ (s.serveRead k e port tag).rtq = s.rtq ∧
    (s.serveRead k e port tag).patrol = s.patrol ∧ (s.serveRead k e port tag).regions = s.regions ∧
    (s.serveRead k e port tag).arbiter = s.arbiter ∧ (s.serveRead k e port tag).ctl = s.ctl ∧
    (s.serveRead k e port tag).cmd = s.cmd ∧ (s.serveRead k e port tag).freeReads = s.freeReads ∧
    (s.serveRead k e port tag).pending = s.pending := by
  unfold State.serveRead
  (repeat' (first | split | dsimp only)) <;> simp

@[simp] theorem State.mergeWrite_frame (s : State) (k : Nat) (e : OpenEntry) (mask : ByteMask) (data : LineData) :
    (s.mergeWrite k e mask data).pins = s.pins ∧ (s.mergeWrite k e mask data).lrt = s.lrt ∧
    (s.mergeWrite k e mask data).pool = s.pool ∧ (s.mergeWrite k e mask data).policy = s.policy ∧
    (s.mergeWrite k e mask data).suspects = s.suspects ∧ (s.mergeWrite k e mask data).rtq = s.rtq ∧
    (s.mergeWrite k e mask data).patrol = s.patrol ∧ (s.mergeWrite k e mask data).erq = s.erq ∧
    (s.mergeWrite k e mask data).irq = s.irq ∧ (s.mergeWrite k e mask data).regions = s.regions ∧
    (s.mergeWrite k e mask data).ports = s.ports ∧ (s.mergeWrite k e mask data).arbiter = s.arbiter ∧
    (s.mergeWrite k e mask data).ctl = s.ctl ∧ (s.mergeWrite k e mask data).cmd = s.cmd ∧
    (s.mergeWrite k e mask data).counters = s.counters ∧
    (s.mergeWrite k e mask data).responses = s.responses ∧
    (s.mergeWrite k e mask data).freeReads = s.freeReads ∧ (s.mergeWrite k e mask data).pending = s.pending := by
  unfold State.mergeWrite
  simp

@[simp] theorem State.issueBufferWrite_frame (s : State) (k : Nat) (e : OpenEntry) (port : PortId) (tag : Tag) (mask : ByteMask) (data : LineData) :
    (s.issueBufferWrite k e port tag mask data).pins = s.pins ∧
    (s.issueBufferWrite k e port tag mask data).lrt = s.lrt ∧
    (s.issueBufferWrite k e port tag mask data).pool = s.pool ∧
    (s.issueBufferWrite k e port tag mask data).policy = s.policy ∧
    (s.issueBufferWrite k e port tag mask data).suspects = s.suspects ∧
    (s.issueBufferWrite k e port tag mask data).rtq = s.rtq ∧
    (s.issueBufferWrite k e port tag mask data).patrol = s.patrol ∧
    (s.issueBufferWrite k e port tag mask data).regions = s.regions ∧
    (s.issueBufferWrite k e port tag mask data).arbiter = s.arbiter ∧
    (s.issueBufferWrite k e port tag mask data).ctl = s.ctl ∧
    (s.issueBufferWrite k e port tag mask data).cmd = s.cmd ∧
    (s.issueBufferWrite k e port tag mask data).freeReads = s.freeReads ∧
    (s.issueBufferWrite k e port tag mask data).pending = s.pending := by
  unfold State.issueBufferWrite
  (repeat' (first | split | dsimp only)) <;> simp

@[simp] theorem State.issueArrayWrite_frame (s : State) (k : Nat) (e : OpenEntry) (mask : ByteMask) (data : LineData) (l : Loc) :
    (s.issueArrayWrite k e mask data l).pins = s.pins ∧ (s.issueArrayWrite k e mask data l).lrt = s.lrt ∧
    (s.issueArrayWrite k e mask data l).pool = s.pool ∧ (s.issueArrayWrite k e mask data l).copy = s.copy ∧
    (s.issueArrayWrite k e mask data l).policy = s.policy ∧
    (s.issueArrayWrite k e mask data l).suspects = s.suspects ∧
    (s.issueArrayWrite k e mask data l).rtq = s.rtq ∧
    (s.issueArrayWrite k e mask data l).patrol = s.patrol ∧
    (s.issueArrayWrite k e mask data l).erq = s.erq ∧ (s.issueArrayWrite k e mask data l).irq = s.irq ∧
    (s.issueArrayWrite k e mask data l).regions = s.regions ∧
    (s.issueArrayWrite k e mask data l).ports = s.ports ∧
    (s.issueArrayWrite k e mask data l).arbiter = s.arbiter ∧
    (s.issueArrayWrite k e mask data l).ctl = s.ctl ∧ (s.issueArrayWrite k e mask data l).cmd = s.cmd ∧
    (s.issueArrayWrite k e mask data l).counters = s.counters ∧
    (s.issueArrayWrite k e mask data l).responses = s.responses ∧
    (s.issueArrayWrite k e mask data l).freeReads = s.freeReads ∧
    (s.issueArrayWrite k e mask data l).pending = s.pending := by
  unfold State.issueArrayWrite
  (repeat' split) <;> simp

@[simp] theorem State.patrolSkip_frame (s : State) (k : Nat) :
    (s.patrolSkip k).pins = s.pins ∧ (s.patrolSkip k).aif = s.aif ∧ (s.patrolSkip k).lrt = s.lrt ∧
    (s.patrolSkip k).pool = s.pool ∧ (s.patrolSkip k).copy = s.copy ∧ (s.patrolSkip k).policy = s.policy ∧
    (s.patrolSkip k).suspects = s.suspects ∧ (s.patrolSkip k).rtq = s.rtq ∧ (s.patrolSkip k).erq = s.erq ∧
    (s.patrolSkip k).regions = s.regions ∧ (s.patrolSkip k).ports = s.ports ∧
    (s.patrolSkip k).arbiter = s.arbiter ∧ (s.patrolSkip k).ctl = s.ctl ∧
    (s.patrolSkip k).responses = s.responses ∧ (s.patrolSkip k).freeReads = s.freeReads ∧
    (s.patrolSkip k).pending = s.pending := by
  unfold State.patrolSkip
  simp

@[simp] theorem State.issueEntry_frame (s : State) (k : Nat) :
    (s.issueEntry k).pins = s.pins ∧ (s.issueEntry k).lrt = s.lrt ∧ (s.issueEntry k).pool = s.pool ∧
    (s.issueEntry k).policy = s.policy ∧ (s.issueEntry k).suspects = s.suspects ∧
    (s.issueEntry k).rtq = s.rtq ∧ (s.issueEntry k).regions = s.regions ∧
    (s.issueEntry k).arbiter = s.arbiter ∧ (s.issueEntry k).ctl = s.ctl ∧
    (s.issueEntry k).freeReads = s.freeReads ∧ (s.issueEntry k).pending = s.pending := by
  unfold State.issueEntry
  (repeat' split) <;> simp

@[simp] theorem issueDue_frame (n : Nat) (s : State) :
    (issueDue n s).pins = s.pins ∧ (issueDue n s).lrt = s.lrt ∧ (issueDue n s).pool = s.pool ∧
    (issueDue n s).policy = s.policy ∧ (issueDue n s).suspects = s.suspects ∧ (issueDue n s).rtq = s.rtq ∧
    (issueDue n s).regions = s.regions ∧ (issueDue n s).arbiter = s.arbiter ∧ (issueDue n s).ctl = s.ctl ∧
    (issueDue n s).freeReads = s.freeReads ∧ (issueDue n s).pending = s.pending := by
  induction n generalizing s with
  | zero => simp [issueDue]
  | succ n ih =>
    simp only [issueDue]
    (repeat' split) <;> simp [ih]

@[simp] theorem State.settleIssues_frame (s : State) :
    (s.settleIssues).pins = s.pins ∧ (s.settleIssues).lrt = s.lrt ∧ (s.settleIssues).pool = s.pool ∧
    (s.settleIssues).policy = s.policy ∧ (s.settleIssues).suspects = s.suspects ∧
    (s.settleIssues).rtq = s.rtq ∧ (s.settleIssues).regions = s.regions ∧
    (s.settleIssues).arbiter = s.arbiter ∧ (s.settleIssues).ctl = s.ctl ∧
    (s.settleIssues).freeReads = s.freeReads ∧ (s.settleIssues).pending = s.pending := by
  unfold State.settleIssues
  simp

@[simp] theorem startDueItems_frame (n : Nat) (s : State) :
    (startDueItems n s).pins = s.pins ∧ (startDueItems n s).aif = s.aif ∧ (startDueItems n s).olt = s.olt ∧
    (startDueItems n s).policy = s.policy ∧ (startDueItems n s).patrol = s.patrol ∧
    (startDueItems n s).regions = s.regions ∧ (startDueItems n s).ports = s.ports ∧
    (startDueItems n s).arbiter = s.arbiter ∧ (startDueItems n s).ctl = s.ctl ∧
    (startDueItems n s).responses = s.responses ∧ (startDueItems n s).freeReads = s.freeReads ∧
    (startDueItems n s).pending = s.pending := by
  induction n generalizing s with
  | zero => simp [startDueItems]
  | succ n ih =>
    simp only [startDueItems]
    (repeat' split) <;> simp [ih]

@[simp] theorem State.settleStarts_frame (s : State) :
    (s.settleStarts).pins = s.pins ∧ (s.settleStarts).aif = s.aif ∧ (s.settleStarts).olt = s.olt ∧
    (s.settleStarts).policy = s.policy ∧ (s.settleStarts).patrol = s.patrol ∧
    (s.settleStarts).regions = s.regions ∧ (s.settleStarts).ports = s.ports ∧
    (s.settleStarts).arbiter = s.arbiter ∧ (s.settleStarts).ctl = s.ctl ∧
    (s.settleStarts).responses = s.responses ∧ (s.settleStarts).freeReads = s.freeReads ∧
    (s.settleStarts).pending = s.pending := by
  unfold State.settleStarts
  simp

@[simp] theorem State.endFill_frame (s : State) :
    (s.endFill).pins = s.pins ∧ (s.endFill).aif = s.aif ∧ (s.endFill).lrt = s.lrt ∧
    (s.endFill).pool = s.pool ∧ (s.endFill).copy = s.copy ∧ (s.endFill).olt = s.olt ∧
    (s.endFill).policy = s.policy ∧ (s.endFill).suspects = s.suspects ∧ (s.endFill).rtq = s.rtq ∧
    (s.endFill).patrol = s.patrol ∧ (s.endFill).erq = s.erq ∧ (s.endFill).regions = s.regions ∧
    (s.endFill).ports = s.ports ∧ (s.endFill).arbiter = s.arbiter ∧ (s.endFill).counters = s.counters ∧
    (s.endFill).responses = s.responses ∧ (s.endFill).freeReads = s.freeReads ∧
    (s.endFill).pending = s.pending := by
  unfold State.endFill
  simp

@[simp] theorem State.enterStopped_frame (s : State) :
    (s.enterStopped).pins = s.pins ∧ (s.enterStopped).aif = s.aif ∧ (s.enterStopped).lrt = s.lrt ∧
    (s.enterStopped).pool = s.pool ∧ (s.enterStopped).copy = s.copy ∧ (s.enterStopped).olt = s.olt ∧
    (s.enterStopped).policy = s.policy ∧ (s.enterStopped).suspects = s.suspects ∧
    (s.enterStopped).rtq = s.rtq ∧ (s.enterStopped).patrol = s.patrol ∧ (s.enterStopped).erq = s.erq ∧
    (s.enterStopped).regions = s.regions ∧ (s.enterStopped).ports = s.ports ∧
    (s.enterStopped).arbiter = s.arbiter ∧ (s.enterStopped).counters = s.counters ∧
    (s.enterStopped).responses = s.responses ∧ (s.enterStopped).freeReads = s.freeReads ∧
    (s.enterStopped).pending = s.pending := by
  unfold State.enterStopped
  simp

@[simp] theorem State.settleEnds_frame (s : State) :
    (s.settleEnds).pins = s.pins ∧ (s.settleEnds).aif = s.aif ∧ (s.settleEnds).lrt = s.lrt ∧
    (s.settleEnds).pool = s.pool ∧ (s.settleEnds).copy = s.copy ∧ (s.settleEnds).olt = s.olt ∧
    (s.settleEnds).policy = s.policy ∧ (s.settleEnds).suspects = s.suspects ∧ (s.settleEnds).rtq = s.rtq ∧
    (s.settleEnds).patrol = s.patrol ∧ (s.settleEnds).erq = s.erq ∧ (s.settleEnds).regions = s.regions ∧
    (s.settleEnds).ports = s.ports ∧ (s.settleEnds).arbiter = s.arbiter ∧
    (s.settleEnds).counters = s.counters ∧ (s.settleEnds).responses = s.responses ∧
    (s.settleEnds).freeReads = s.freeReads ∧ (s.settleEnds).pending = s.pending := by
  unfold State.settleEnds
  (repeat' split) <;> simp

@[simp] theorem State.settle_frame (s : State) :
    (s.settle).pins = s.pins ∧ (s.settle).policy = s.policy ∧ (s.settle).regions = s.regions ∧
    (s.settle).arbiter = s.arbiter ∧ (s.settle).freeReads = s.freeReads ∧ (s.settle).pending = s.pending := by
  unfold State.settle
  simp

@[simp] theorem State.newStep_frame (s : State) :
    (s.newStep).pins = s.pins ∧ (s.newStep).aif = s.aif ∧ (s.newStep).lrt = s.lrt ∧
    (s.newStep).pool = s.pool ∧ (s.newStep).copy = s.copy ∧ (s.newStep).olt = s.olt ∧
    (s.newStep).policy = s.policy ∧ (s.newStep).suspects = s.suspects ∧ (s.newStep).rtq = s.rtq ∧
    (s.newStep).patrol = s.patrol ∧ (s.newStep).erq = s.erq ∧ (s.newStep).irq = s.irq ∧
    (s.newStep).regions = s.regions ∧ (s.newStep).ports = s.ports ∧ (s.newStep).arbiter = s.arbiter ∧
    (s.newStep).ctl = s.ctl ∧ (s.newStep).cmd = s.cmd ∧ (s.newStep).counters = s.counters ∧
    (s.newStep).freeReads = s.freeReads ∧ (s.newStep).pending = s.pending := by
  unfold State.newStep
  simp

@[simp] theorem State.opened_frame (s : State) :
    (s.opened).pins = s.pins ∧ (s.opened).policy = s.policy ∧ (s.opened).regions = s.regions ∧
    (s.opened).arbiter = s.arbiter ∧ (s.opened).freeReads = s.freeReads ∧ (s.opened).pending = s.pending := by
  unfold State.opened
  simp

@[simp] theorem State.quietAbort_frame (s : State) :
    (s.quietAbort).pins = s.pins ∧ (s.quietAbort).aif = s.aif ∧ (s.quietAbort).copy = s.copy ∧
    (s.quietAbort).olt = s.olt ∧ (s.quietAbort).policy = s.policy ∧ (s.quietAbort).suspects = s.suspects ∧
    (s.quietAbort).rtq = s.rtq ∧ (s.quietAbort).patrol = s.patrol ∧ (s.quietAbort).erq = s.erq ∧
    (s.quietAbort).irq = s.irq ∧ (s.quietAbort).regions = s.regions ∧ (s.quietAbort).ports = s.ports ∧
    (s.quietAbort).arbiter = s.arbiter ∧ (s.quietAbort).ctl = s.ctl ∧ (s.quietAbort).cmd = s.cmd ∧
    (s.quietAbort).counters = s.counters ∧ (s.quietAbort).responses = s.responses ∧
    (s.quietAbort).freeReads = s.freeReads ∧ (s.quietAbort).pending = s.pending := by
  unfold State.quietAbort
  (repeat' split) <;> simp

@[simp] theorem State.releasePin_frame (s : State) (pin : ResetPin) :
    (s.releasePin pin).aif = s.aif ∧ (s.releasePin pin).lrt = s.lrt ∧ (s.releasePin pin).pool = s.pool ∧
    (s.releasePin pin).copy = s.copy ∧ (s.releasePin pin).olt = s.olt ∧
    (s.releasePin pin).policy = s.policy ∧ (s.releasePin pin).suspects = s.suspects ∧
    (s.releasePin pin).rtq = s.rtq ∧ (s.releasePin pin).patrol = s.patrol ∧
    (s.releasePin pin).erq = s.erq ∧ (s.releasePin pin).irq = s.irq ∧
    (s.releasePin pin).regions = s.regions ∧ (s.releasePin pin).ports = s.ports ∧
    (s.releasePin pin).arbiter = s.arbiter ∧ (s.releasePin pin).ctl = s.ctl ∧
    (s.releasePin pin).cmd = s.cmd ∧ (s.releasePin pin).counters = s.counters ∧
    (s.releasePin pin).responses = s.responses ∧ (s.releasePin pin).freeReads = s.freeReads ∧
    (s.releasePin pin).pending = s.pending := by
  unfold State.releasePin
  (repeat' split) <;> simp

@[simp] theorem State.queueRequest_frame (s : State) (p : PortId) (r : Request) :
    (s.queueRequest p r).pins = s.pins ∧ (s.queueRequest p r).aif = s.aif ∧
    (s.queueRequest p r).lrt = s.lrt ∧ (s.queueRequest p r).pool = s.pool ∧
    (s.queueRequest p r).copy = s.copy ∧ (s.queueRequest p r).olt = s.olt ∧
    (s.queueRequest p r).policy = s.policy ∧ (s.queueRequest p r).suspects = s.suspects ∧
    (s.queueRequest p r).rtq = s.rtq ∧ (s.queueRequest p r).patrol = s.patrol ∧
    (s.queueRequest p r).erq = s.erq ∧ (s.queueRequest p r).irq = s.irq ∧
    (s.queueRequest p r).regions = s.regions ∧ (s.queueRequest p r).arbiter = s.arbiter ∧
    (s.queueRequest p r).ctl = s.ctl ∧ (s.queueRequest p r).cmd = s.cmd ∧
    (s.queueRequest p r).counters = s.counters ∧ (s.queueRequest p r).responses = s.responses ∧
    (s.queueRequest p r).freeReads = s.freeReads ∧ (s.queueRequest p r).pending = s.pending := by
  unfold State.queueRequest
  simp

@[simp] theorem State.acceptRequest_frame (s : State) (p : PortId) (r : Request) :
    (s.acceptRequest p r).pins = s.pins ∧ (s.acceptRequest p r).aif = s.aif ∧
    (s.acceptRequest p r).lrt = s.lrt ∧ (s.acceptRequest p r).pool = s.pool ∧
    (s.acceptRequest p r).copy = s.copy ∧ (s.acceptRequest p r).olt = s.olt ∧
    (s.acceptRequest p r).policy = s.policy ∧ (s.acceptRequest p r).suspects = s.suspects ∧
    (s.acceptRequest p r).rtq = s.rtq ∧ (s.acceptRequest p r).patrol = s.patrol ∧
    (s.acceptRequest p r).erq = s.erq ∧ (s.acceptRequest p r).irq = s.irq ∧
    (s.acceptRequest p r).regions = s.regions ∧ (s.acceptRequest p r).arbiter = s.arbiter ∧
    (s.acceptRequest p r).ctl = s.ctl ∧ (s.acceptRequest p r).cmd = s.cmd ∧
    (s.acceptRequest p r).counters = s.counters ∧ (s.acceptRequest p r).freeReads = s.freeReads ∧
    (s.acceptRequest p r).pending = s.pending := by
  unfold State.acceptRequest
  (repeat' split) <;> simp

@[simp] theorem State.refuse_frame (s : State) (p : PortId) (r : Request) (st : RespStatus) (d : DenyReason) :
    (s.refuse p r st d).pins = s.pins ∧ (s.refuse p r st d).aif = s.aif ∧ (s.refuse p r st d).lrt = s.lrt ∧
    (s.refuse p r st d).pool = s.pool ∧ (s.refuse p r st d).copy = s.copy ∧
    (s.refuse p r st d).olt = s.olt ∧ (s.refuse p r st d).policy = s.policy ∧
    (s.refuse p r st d).suspects = s.suspects ∧ (s.refuse p r st d).rtq = s.rtq ∧
    (s.refuse p r st d).patrol = s.patrol ∧ (s.refuse p r st d).regions = s.regions ∧
    (s.refuse p r st d).arbiter = s.arbiter ∧ (s.refuse p r st d).ctl = s.ctl ∧
    (s.refuse p r st d).cmd = s.cmd ∧ (s.refuse p r st d).freeReads = s.freeReads ∧
    (s.refuse p r st d).pending = s.pending := by
  unfold State.refuse
  simp

@[simp] theorem State.grantHead_frame (s : State) (p : PortId) (r : Request) :
    (s.grantHead p r).pins = s.pins ∧ (s.grantHead p r).aif = s.aif ∧ (s.grantHead p r).lrt = s.lrt ∧
    (s.grantHead p r).pool = s.pool ∧ (s.grantHead p r).copy = s.copy ∧
    (s.grantHead p r).policy = s.policy ∧ (s.grantHead p r).suspects = s.suspects ∧
    (s.grantHead p r).rtq = s.rtq ∧ (s.grantHead p r).patrol = s.patrol ∧
    (s.grantHead p r).regions = s.regions ∧ (s.grantHead p r).arbiter = s.arbiter ∧
    (s.grantHead p r).ctl = s.ctl ∧ (s.grantHead p r).cmd = s.cmd ∧
    (s.grantHead p r).freeReads = s.freeReads ∧ (s.grantHead p r).pending = s.pending := by
  unfold State.grantHead
  (repeat' split) <;> simp

@[simp] theorem State.grantPort_frame (s : State) (p : PortId) :
    (s.grantPort p).pins = s.pins ∧ (s.grantPort p).aif = s.aif ∧ (s.grantPort p).lrt = s.lrt ∧
    (s.grantPort p).pool = s.pool ∧ (s.grantPort p).copy = s.copy ∧ (s.grantPort p).policy = s.policy ∧
    (s.grantPort p).suspects = s.suspects ∧ (s.grantPort p).rtq = s.rtq ∧
    (s.grantPort p).patrol = s.patrol ∧ (s.grantPort p).regions = s.regions ∧ (s.grantPort p).ctl = s.ctl ∧
    (s.grantPort p).cmd = s.cmd ∧ (s.grantPort p).freeReads = s.freeReads ∧
    (s.grantPort p).pending = s.pending := by
  unfold State.grantPort
  (repeat' split) <;> simp

@[simp] theorem State.grantPortHead_frame (s : State) :
    (s.grantPortHead).pins = s.pins ∧ (s.grantPortHead).aif = s.aif ∧ (s.grantPortHead).lrt = s.lrt ∧
    (s.grantPortHead).pool = s.pool ∧ (s.grantPortHead).copy = s.copy ∧
    (s.grantPortHead).policy = s.policy ∧ (s.grantPortHead).suspects = s.suspects ∧
    (s.grantPortHead).rtq = s.rtq ∧ (s.grantPortHead).patrol = s.patrol ∧
    (s.grantPortHead).regions = s.regions ∧ (s.grantPortHead).ctl = s.ctl ∧ (s.grantPortHead).cmd = s.cmd ∧
    (s.grantPortHead).freeReads = s.freeReads ∧ (s.grantPortHead).pending = s.pending := by
  unfold State.grantPortHead
  (repeat' split) <;> simp

@[simp] theorem State.grantCopy_frame (s : State) :
    (s.grantCopy).pins = s.pins ∧ (s.grantCopy).aif = s.aif ∧ (s.grantCopy).lrt = s.lrt ∧
    (s.grantCopy).pool = s.pool ∧ (s.grantCopy).copy = s.copy ∧ (s.grantCopy).policy = s.policy ∧
    (s.grantCopy).suspects = s.suspects ∧ (s.grantCopy).rtq = s.rtq ∧ (s.grantCopy).patrol = s.patrol ∧
    (s.grantCopy).erq = s.erq ∧ (s.grantCopy).irq = s.irq ∧ (s.grantCopy).regions = s.regions ∧
    (s.grantCopy).ports = s.ports ∧ (s.grantCopy).arbiter = s.arbiter ∧ (s.grantCopy).ctl = s.ctl ∧
    (s.grantCopy).cmd = s.cmd ∧ (s.grantCopy).counters = s.counters ∧
    (s.grantCopy).responses = s.responses ∧ (s.grantCopy).freeReads = s.freeReads ∧
    (s.grantCopy).pending = s.pending := by
  unfold State.grantCopy
  (repeat' split) <;> simp

@[simp] theorem State.grantCopyRead_frame (s : State) :
    (s.grantCopyRead).pins = s.pins ∧ (s.grantCopyRead).aif = s.aif ∧ (s.grantCopyRead).lrt = s.lrt ∧
    (s.grantCopyRead).pool = s.pool ∧ (s.grantCopyRead).copy = s.copy ∧
    (s.grantCopyRead).policy = s.policy ∧ (s.grantCopyRead).suspects = s.suspects ∧
    (s.grantCopyRead).rtq = s.rtq ∧ (s.grantCopyRead).patrol = s.patrol ∧ (s.grantCopyRead).erq = s.erq ∧
    (s.grantCopyRead).irq = s.irq ∧ (s.grantCopyRead).regions = s.regions ∧
    (s.grantCopyRead).ports = s.ports ∧ (s.grantCopyRead).arbiter = s.arbiter ∧
    (s.grantCopyRead).ctl = s.ctl ∧ (s.grantCopyRead).cmd = s.cmd ∧
    (s.grantCopyRead).counters = s.counters ∧ (s.grantCopyRead).responses = s.responses ∧
    (s.grantCopyRead).freeReads = s.freeReads ∧ (s.grantCopyRead).pending = s.pending := by
  unfold State.grantCopyRead
  (repeat' split) <;> simp

@[simp] theorem State.grantPatrolUnit_frame (s : State) :
    (s.grantPatrolUnit).pins = s.pins ∧ (s.grantPatrolUnit).aif = s.aif ∧ (s.grantPatrolUnit).lrt = s.lrt ∧
    (s.grantPatrolUnit).pool = s.pool ∧ (s.grantPatrolUnit).copy = s.copy ∧
    (s.grantPatrolUnit).policy = s.policy ∧ (s.grantPatrolUnit).suspects = s.suspects ∧
    (s.grantPatrolUnit).rtq = s.rtq ∧ (s.grantPatrolUnit).erq = s.erq ∧
    (s.grantPatrolUnit).regions = s.regions ∧ (s.grantPatrolUnit).ports = s.ports ∧
    (s.grantPatrolUnit).ctl = s.ctl ∧ (s.grantPatrolUnit).counters = s.counters ∧
    (s.grantPatrolUnit).responses = s.responses ∧ (s.grantPatrolUnit).freeReads = s.freeReads ∧
    (s.grantPatrolUnit).pending = s.pending := by
  unfold State.grantPatrolUnit
  (repeat' split) <;> simp

@[simp] theorem State.reportCorrected_frame (s : State) (src : RecordSource) (line : Nat) (l : Loc) (mask : WordMask) :
    (s.reportCorrected src line l mask).pins = s.pins ∧ (s.reportCorrected src line l mask).aif = s.aif ∧
    (s.reportCorrected src line l mask).lrt = s.lrt ∧ (s.reportCorrected src line l mask).pool = s.pool ∧
    (s.reportCorrected src line l mask).copy = s.copy ∧ (s.reportCorrected src line l mask).olt = s.olt ∧
    (s.reportCorrected src line l mask).policy = s.policy ∧
    (s.reportCorrected src line l mask).patrol = s.patrol ∧
    (s.reportCorrected src line l mask).regions = s.regions ∧
    (s.reportCorrected src line l mask).ports = s.ports ∧
    (s.reportCorrected src line l mask).arbiter = s.arbiter ∧
    (s.reportCorrected src line l mask).ctl = s.ctl ∧ (s.reportCorrected src line l mask).cmd = s.cmd ∧
    (s.reportCorrected src line l mask).responses = s.responses ∧
    (s.reportCorrected src line l mask).freeReads = s.freeReads ∧
    (s.reportCorrected src line l mask).pending = s.pending := by
  unfold State.reportCorrected
  simp

@[simp] theorem State.reportUncorrectable_frame (s : State) (src : RecordSource) (line : Nat) (l : Loc) (mask : WordMask) :
    (s.reportUncorrectable src line l mask).pins = s.pins ∧
    (s.reportUncorrectable src line l mask).aif = s.aif ∧
    (s.reportUncorrectable src line l mask).lrt = s.lrt ∧
    (s.reportUncorrectable src line l mask).pool = s.pool ∧
    (s.reportUncorrectable src line l mask).copy = s.copy ∧
    (s.reportUncorrectable src line l mask).olt = s.olt ∧
    (s.reportUncorrectable src line l mask).policy = s.policy ∧
    (s.reportUncorrectable src line l mask).suspects = s.suspects ∧
    (s.reportUncorrectable src line l mask).rtq = s.rtq ∧
    (s.reportUncorrectable src line l mask).patrol = s.patrol ∧
    (s.reportUncorrectable src line l mask).regions = s.regions ∧
    (s.reportUncorrectable src line l mask).ports = s.ports ∧
    (s.reportUncorrectable src line l mask).arbiter = s.arbiter ∧
    (s.reportUncorrectable src line l mask).ctl = s.ctl ∧
    (s.reportUncorrectable src line l mask).cmd = s.cmd ∧
    (s.reportUncorrectable src line l mask).responses = s.responses ∧
    (s.reportUncorrectable src line l mask).freeReads = s.freeReads ∧
    (s.reportUncorrectable src line l mask).pending = s.pending := by
  unfold State.reportUncorrectable
  simp

@[simp] theorem State.issueIfDue_frame (s : State) (k : Nat) :
    (s.issueIfDue k).pins = s.pins ∧ (s.issueIfDue k).lrt = s.lrt ∧ (s.issueIfDue k).pool = s.pool ∧
    (s.issueIfDue k).policy = s.policy ∧ (s.issueIfDue k).suspects = s.suspects ∧
    (s.issueIfDue k).rtq = s.rtq ∧ (s.issueIfDue k).regions = s.regions ∧
    (s.issueIfDue k).arbiter = s.arbiter ∧ (s.issueIfDue k).ctl = s.ctl ∧
    (s.issueIfDue k).freeReads = s.freeReads ∧ (s.issueIfDue k).pending = s.pending := by
  unfold State.issueIfDue
  (repeat' split) <;> simp

@[simp] theorem State.readCorrected_frame (s : State) (k : Nat) (e : OpenEntry) (p : PortId) (t : Tag) (r : LineRead) :
    (s.readCorrected k e p t r).pins = s.pins ∧ (s.readCorrected k e p t r).lrt = s.lrt ∧
    (s.readCorrected k e p t r).pool = s.pool ∧ (s.readCorrected k e p t r).copy = s.copy ∧
    (s.readCorrected k e p t r).policy = s.policy ∧ (s.readCorrected k e p t r).patrol = s.patrol ∧
    (s.readCorrected k e p t r).regions = s.regions ∧ (s.readCorrected k e p t r).arbiter = s.arbiter ∧
    (s.readCorrected k e p t r).ctl = s.ctl ∧ (s.readCorrected k e p t r).cmd = s.cmd ∧
    (s.readCorrected k e p t r).freeReads = s.freeReads ∧ (s.readCorrected k e p t r).pending = s.pending := by
  unfold State.readCorrected
  (repeat' (first | split | dsimp only)) <;> simp

@[simp] theorem State.readUncorrectable_frame (s : State) (k : Nat) (e : OpenEntry) (p : PortId) (t : Tag) (r : LineRead) :
    (s.readUncorrectable k e p t r).pins = s.pins ∧ (s.readUncorrectable k e p t r).aif = s.aif ∧
    (s.readUncorrectable k e p t r).policy = s.policy ∧
    (s.readUncorrectable k e p t r).regions = s.regions ∧
    (s.readUncorrectable k e p t r).freeReads = s.freeReads ∧
    (s.readUncorrectable k e p t r).pending = s.pending := by
  unfold State.readUncorrectable
  simp

@[simp] theorem State.readPoisoned_frame (s : State) (k : Nat) (e : OpenEntry) (p : PortId) (t : Tag) :
    (s.readPoisoned k e p t).pins = s.pins ∧ (s.readPoisoned k e p t).aif = s.aif ∧
    (s.readPoisoned k e p t).lrt = s.lrt ∧ (s.readPoisoned k e p t).pool = s.pool ∧
    (s.readPoisoned k e p t).copy = s.copy ∧ (s.readPoisoned k e p t).policy = s.policy ∧
    (s.readPoisoned k e p t).suspects = s.suspects ∧ (s.readPoisoned k e p t).rtq = s.rtq ∧
    (s.readPoisoned k e p t).patrol = s.patrol ∧ (s.readPoisoned k e p t).regions = s.regions ∧
    (s.readPoisoned k e p t).arbiter = s.arbiter ∧ (s.readPoisoned k e p t).ctl = s.ctl ∧
    (s.readPoisoned k e p t).cmd = s.cmd ∧ (s.readPoisoned k e p t).freeReads = s.freeReads ∧
    (s.readPoisoned k e p t).pending = s.pending := by
  unfold State.readPoisoned
  simp

@[simp] theorem State.readOk_frame (s : State) (k : Nat) (p : PortId) (t : Tag) (d : LineData) :
    (s.readOk k p t d).pins = s.pins ∧ (s.readOk k p t d).aif = s.aif ∧ (s.readOk k p t d).lrt = s.lrt ∧
    (s.readOk k p t d).pool = s.pool ∧ (s.readOk k p t d).copy = s.copy ∧
    (s.readOk k p t d).policy = s.policy ∧ (s.readOk k p t d).suspects = s.suspects ∧
    (s.readOk k p t d).rtq = s.rtq ∧ (s.readOk k p t d).patrol = s.patrol ∧
    (s.readOk k p t d).erq = s.erq ∧ (s.readOk k p t d).irq = s.irq ∧
    (s.readOk k p t d).regions = s.regions ∧ (s.readOk k p t d).arbiter = s.arbiter ∧
    (s.readOk k p t d).ctl = s.ctl ∧ (s.readOk k p t d).cmd = s.cmd ∧
    (s.readOk k p t d).counters = s.counters ∧ (s.readOk k p t d).freeReads = s.freeReads ∧
    (s.readOk k p t d).pending = s.pending := by
  unfold State.readOk
  simp

@[simp] theorem State.readDecoded_frame (s : State) (k : Nat) (e : OpenEntry) (p : PortId) (t : Tag) (r : LineRead) :
    (s.readDecoded k e p t r).pins = s.pins ∧ (s.readDecoded k e p t r).policy = s.policy ∧
    (s.readDecoded k e p t r).regions = s.regions ∧ (s.readDecoded k e p t r).freeReads = s.freeReads ∧
    (s.readDecoded k e p t r).pending = s.pending := by
  unfold State.readDecoded
  (repeat' split) <;> simp

@[simp] theorem State.demandReadDone_frame (s : State) (k : Nat) :
    (s.demandReadDone k).pins = s.pins ∧ (s.demandReadDone k).policy = s.policy ∧
    (s.demandReadDone k).regions = s.regions ∧ (s.demandReadDone k).pending = s.pending := by
  unfold State.demandReadDone
  (repeat' split) <;> simp

@[simp] theorem State.writeMerged_frame (s : State) (k : Nat) (e : OpenEntry) (mask : ByteMask) (data old : LineData) (res : Option EntryResult) :
    (s.writeMerged k e mask data old res).pins = s.pins ∧
    (s.writeMerged k e mask data old res).lrt = s.lrt ∧
    (s.writeMerged k e mask data old res).pool = s.pool ∧
    (s.writeMerged k e mask data old res).copy = s.copy ∧
    (s.writeMerged k e mask data old res).policy = s.policy ∧
    (s.writeMerged k e mask data old res).suspects = s.suspects ∧
    (s.writeMerged k e mask data old res).rtq = s.rtq ∧
    (s.writeMerged k e mask data old res).patrol = s.patrol ∧
    (s.writeMerged k e mask data old res).erq = s.erq ∧ (s.writeMerged k e mask data old res).irq = s.irq ∧
    (s.writeMerged k e mask data old res).regions = s.regions ∧
    (s.writeMerged k e mask data old res).ports = s.ports ∧
    (s.writeMerged k e mask data old res).arbiter = s.arbiter ∧
    (s.writeMerged k e mask data old res).ctl = s.ctl ∧ (s.writeMerged k e mask data old res).cmd = s.cmd ∧
    (s.writeMerged k e mask data old res).counters = s.counters ∧
    (s.writeMerged k e mask data old res).responses = s.responses ∧
    (s.writeMerged k e mask data old res).freeReads = s.freeReads ∧
    (s.writeMerged k e mask data old res).pending = s.pending := by
  unfold State.writeMerged
  simp

@[simp] theorem State.partialUncorrectable_frame (s : State) (k : Nat) (e : OpenEntry) (p : PortId) (r : LineRead) :
    (s.partialUncorrectable k e p r).pins = s.pins ∧ (s.partialUncorrectable k e p r).lrt = s.lrt ∧
    (s.partialUncorrectable k e p r).pool = s.pool ∧ (s.partialUncorrectable k e p r).copy = s.copy ∧
    (s.partialUncorrectable k e p r).policy = s.policy ∧
    (s.partialUncorrectable k e p r).suspects = s.suspects ∧ (s.partialUncorrectable k e p r).rtq = s.rtq ∧
    (s.partialUncorrectable k e p r).patrol = s.patrol ∧
    (s.partialUncorrectable k e p r).regions = s.regions ∧
    (s.partialUncorrectable k e p r).ports = s.ports ∧
    (s.partialUncorrectable k e p r).arbiter = s.arbiter ∧ (s.partialUncorrectable k e p r).ctl = s.ctl ∧
    (s.partialUncorrectable k e p r).cmd = s.cmd ∧
    (s.partialUncorrectable k e p r).responses = s.responses ∧
    (s.partialUncorrectable k e p r).freeReads = s.freeReads ∧
    (s.partialUncorrectable k e p r).pending = s.pending := by
  unfold State.partialUncorrectable
  simp

@[simp] theorem State.partialPoisoned_frame (s : State) (k : Nat) (e : OpenEntry) (p : PortId) (t : Tag) :
    (s.partialPoisoned k e p t).pins = s.pins ∧ (s.partialPoisoned k e p t).aif = s.aif ∧
    (s.partialPoisoned k e p t).lrt = s.lrt ∧ (s.partialPoisoned k e p t).pool = s.pool ∧
    (s.partialPoisoned k e p t).copy = s.copy ∧ (s.partialPoisoned k e p t).policy = s.policy ∧
    (s.partialPoisoned k e p t).suspects = s.suspects ∧ (s.partialPoisoned k e p t).rtq = s.rtq ∧
    (s.partialPoisoned k e p t).patrol = s.patrol ∧ (s.partialPoisoned k e p t).regions = s.regions ∧
    (s.partialPoisoned k e p t).arbiter = s.arbiter ∧ (s.partialPoisoned k e p t).ctl = s.ctl ∧
    (s.partialPoisoned k e p t).cmd = s.cmd ∧ (s.partialPoisoned k e p t).freeReads = s.freeReads ∧
    (s.partialPoisoned k e p t).pending = s.pending := by
  unfold State.partialPoisoned
  simp

@[simp] theorem State.partialDecoded_frame (s : State) (k : Nat) (e : OpenEntry) (p : PortId) (t : Tag) (mask : ByteMask) (data : LineData) (r : LineRead) :
    (s.partialDecoded k e p t mask data r).pins = s.pins ∧
    (s.partialDecoded k e p t mask data r).lrt = s.lrt ∧
    (s.partialDecoded k e p t mask data r).pool = s.pool ∧
    (s.partialDecoded k e p t mask data r).copy = s.copy ∧
    (s.partialDecoded k e p t mask data r).policy = s.policy ∧
    (s.partialDecoded k e p t mask data r).patrol = s.patrol ∧
    (s.partialDecoded k e p t mask data r).regions = s.regions ∧
    (s.partialDecoded k e p t mask data r).arbiter = s.arbiter ∧
    (s.partialDecoded k e p t mask data r).ctl = s.ctl ∧
    (s.partialDecoded k e p t mask data r).cmd = s.cmd ∧
    (s.partialDecoded k e p t mask data r).freeReads = s.freeReads ∧
    (s.partialDecoded k e p t mask data r).pending = s.pending := by
  unfold State.partialDecoded
  (repeat' split) <;> simp

@[simp] theorem State.partialReadDone_frame (s : State) (k : Nat) :
    (s.partialReadDone k).pins = s.pins ∧ (s.partialReadDone k).lrt = s.lrt ∧
    (s.partialReadDone k).pool = s.pool ∧ (s.partialReadDone k).copy = s.copy ∧
    (s.partialReadDone k).policy = s.policy ∧ (s.partialReadDone k).patrol = s.patrol ∧
    (s.partialReadDone k).regions = s.regions ∧ (s.partialReadDone k).arbiter = s.arbiter ∧
    (s.partialReadDone k).ctl = s.ctl ∧ (s.partialReadDone k).cmd = s.cmd ∧
    (s.partialReadDone k).pending = s.pending := by
  unfold State.partialReadDone
  (repeat' split) <;> simp

@[simp] theorem State.demandWriteDone_frame (s : State) (k : Nat) :
    (s.demandWriteDone k).pins = s.pins ∧ (s.demandWriteDone k).lrt = s.lrt ∧
    (s.demandWriteDone k).pool = s.pool ∧ (s.demandWriteDone k).copy = s.copy ∧
    (s.demandWriteDone k).policy = s.policy ∧ (s.demandWriteDone k).suspects = s.suspects ∧
    (s.demandWriteDone k).rtq = s.rtq ∧ (s.demandWriteDone k).patrol = s.patrol ∧
    (s.demandWriteDone k).erq = s.erq ∧ (s.demandWriteDone k).irq = s.irq ∧
    (s.demandWriteDone k).regions = s.regions ∧ (s.demandWriteDone k).arbiter = s.arbiter ∧
    (s.demandWriteDone k).ctl = s.ctl ∧ (s.demandWriteDone k).cmd = s.cmd ∧
    (s.demandWriteDone k).counters = s.counters ∧ (s.demandWriteDone k).pending = s.pending := by
  unfold State.demandWriteDone
  (repeat' split) <;> simp

@[simp] theorem State.poisonWriteDone_frame (s : State) (k : Nat) :
    (s.poisonWriteDone k).pins = s.pins ∧ (s.poisonWriteDone k).policy = s.policy ∧
    (s.poisonWriteDone k).regions = s.regions ∧ (s.poisonWriteDone k).pending = s.pending := by
  unfold State.poisonWriteDone
  (repeat' (first | split | dsimp only)) <;> simp

@[simp] theorem State.sourceWriteDone_frame (s : State) (k : Nat) :
    (s.sourceWriteDone k).pins = s.pins ∧ (s.sourceWriteDone k).lrt = s.lrt ∧
    (s.sourceWriteDone k).pool = s.pool ∧ (s.sourceWriteDone k).copy = s.copy ∧
    (s.sourceWriteDone k).policy = s.policy ∧ (s.sourceWriteDone k).suspects = s.suspects ∧
    (s.sourceWriteDone k).rtq = s.rtq ∧ (s.sourceWriteDone k).patrol = s.patrol ∧
    (s.sourceWriteDone k).erq = s.erq ∧ (s.sourceWriteDone k).irq = s.irq ∧
    (s.sourceWriteDone k).regions = s.regions ∧ (s.sourceWriteDone k).arbiter = s.arbiter ∧
    (s.sourceWriteDone k).ctl = s.ctl ∧ (s.sourceWriteDone k).cmd = s.cmd ∧
    (s.sourceWriteDone k).counters = s.counters ∧ (s.sourceWriteDone k).pending = s.pending := by
  unfold State.sourceWriteDone
  (repeat' split) <;> simp

@[simp] theorem State.writebackDone_frame (s : State) (k : Nat) :
    (s.writebackDone k).pins = s.pins ∧ (s.writebackDone k).lrt = s.lrt ∧
    (s.writebackDone k).pool = s.pool ∧ (s.writebackDone k).copy = s.copy ∧
    (s.writebackDone k).policy = s.policy ∧ (s.writebackDone k).suspects = s.suspects ∧
    (s.writebackDone k).rtq = s.rtq ∧ (s.writebackDone k).patrol = s.patrol ∧
    (s.writebackDone k).erq = s.erq ∧ (s.writebackDone k).irq = s.irq ∧
    (s.writebackDone k).regions = s.regions ∧ (s.writebackDone k).ports = s.ports ∧
    (s.writebackDone k).arbiter = s.arbiter ∧ (s.writebackDone k).ctl = s.ctl ∧
    (s.writebackDone k).cmd = s.cmd ∧ (s.writebackDone k).counters = s.counters ∧
    (s.writebackDone k).responses = s.responses ∧ (s.writebackDone k).pending = s.pending := by
  unfold State.writebackDone
  (repeat' split) <;> simp

@[simp] theorem State.endPatrolEntry_frame (s : State) (k : Nat) :
    (s.endPatrolEntry k).pins = s.pins ∧ (s.endPatrolEntry k).aif = s.aif ∧
    (s.endPatrolEntry k).lrt = s.lrt ∧ (s.endPatrolEntry k).pool = s.pool ∧
    (s.endPatrolEntry k).copy = s.copy ∧ (s.endPatrolEntry k).policy = s.policy ∧
    (s.endPatrolEntry k).suspects = s.suspects ∧ (s.endPatrolEntry k).rtq = s.rtq ∧
    (s.endPatrolEntry k).erq = s.erq ∧ (s.endPatrolEntry k).regions = s.regions ∧
    (s.endPatrolEntry k).ports = s.ports ∧ (s.endPatrolEntry k).arbiter = s.arbiter ∧
    (s.endPatrolEntry k).ctl = s.ctl ∧ (s.endPatrolEntry k).counters = s.counters ∧
    (s.endPatrolEntry k).responses = s.responses ∧ (s.endPatrolEntry k).freeReads = s.freeReads ∧
    (s.endPatrolEntry k).pending = s.pending := by
  unfold State.endPatrolEntry
  simp

@[simp] theorem State.patrolOutcome_frame (s : State) (k : Nat) (e : OpenEntry) (r : LineRead) :
    (s.patrolOutcome k e r).pins = s.pins ∧ (s.patrolOutcome k e r).lrt = s.lrt ∧
    (s.patrolOutcome k e r).pool = s.pool ∧ (s.patrolOutcome k e r).copy = s.copy ∧
    (s.patrolOutcome k e r).policy = s.policy ∧ (s.patrolOutcome k e r).regions = s.regions ∧
    (s.patrolOutcome k e r).ports = s.ports ∧ (s.patrolOutcome k e r).arbiter = s.arbiter ∧
    (s.patrolOutcome k e r).ctl = s.ctl ∧ (s.patrolOutcome k e r).responses = s.responses ∧
    (s.patrolOutcome k e r).freeReads = s.freeReads ∧ (s.patrolOutcome k e r).pending = s.pending := by
  unfold State.patrolOutcome
  (repeat' (first | split | dsimp only)) <;> simp

@[simp] theorem State.patrolReadDone_frame (s : State) (k : Nat) :
    (s.patrolReadDone k).pins = s.pins ∧ (s.patrolReadDone k).lrt = s.lrt ∧
    (s.patrolReadDone k).pool = s.pool ∧ (s.patrolReadDone k).copy = s.copy ∧
    (s.patrolReadDone k).policy = s.policy ∧ (s.patrolReadDone k).regions = s.regions ∧
    (s.patrolReadDone k).ports = s.ports ∧ (s.patrolReadDone k).arbiter = s.arbiter ∧
    (s.patrolReadDone k).ctl = s.ctl ∧ (s.patrolReadDone k).responses = s.responses ∧
    (s.patrolReadDone k).pending = s.pending := by
  unfold State.patrolReadDone
  (repeat' split) <;> simp

@[simp] theorem State.scrubWriteDone_frame (s : State) (k : Nat) :
    (s.scrubWriteDone k).pins = s.pins ∧ (s.scrubWriteDone k).lrt = s.lrt ∧
    (s.scrubWriteDone k).pool = s.pool ∧ (s.scrubWriteDone k).copy = s.copy ∧
    (s.scrubWriteDone k).policy = s.policy ∧ (s.scrubWriteDone k).suspects = s.suspects ∧
    (s.scrubWriteDone k).rtq = s.rtq ∧ (s.scrubWriteDone k).erq = s.erq ∧
    (s.scrubWriteDone k).regions = s.regions ∧ (s.scrubWriteDone k).ports = s.ports ∧
    (s.scrubWriteDone k).arbiter = s.arbiter ∧ (s.scrubWriteDone k).ctl = s.ctl ∧
    (s.scrubWriteDone k).counters = s.counters ∧ (s.scrubWriteDone k).responses = s.responses ∧
    (s.scrubWriteDone k).pending = s.pending := by
  unfold State.scrubWriteDone
  (repeat' split) <;> simp

@[simp] theorem State.fillBuffer_frame (s : State) (d : LineData) (poison : Bool) :
    (s.fillBuffer d poison).pins = s.pins ∧ (s.fillBuffer d poison).aif = s.aif ∧
    (s.fillBuffer d poison).lrt = s.lrt ∧ (s.fillBuffer d poison).pool = s.pool ∧
    (s.fillBuffer d poison).olt = s.olt ∧ (s.fillBuffer d poison).policy = s.policy ∧
    (s.fillBuffer d poison).suspects = s.suspects ∧ (s.fillBuffer d poison).rtq = s.rtq ∧
    (s.fillBuffer d poison).patrol = s.patrol ∧ (s.fillBuffer d poison).erq = s.erq ∧
    (s.fillBuffer d poison).irq = s.irq ∧ (s.fillBuffer d poison).regions = s.regions ∧
    (s.fillBuffer d poison).ports = s.ports ∧ (s.fillBuffer d poison).arbiter = s.arbiter ∧
    (s.fillBuffer d poison).ctl = s.ctl ∧ (s.fillBuffer d poison).cmd = s.cmd ∧
    (s.fillBuffer d poison).counters = s.counters ∧ (s.fillBuffer d poison).responses = s.responses ∧
    (s.fillBuffer d poison).freeReads = s.freeReads ∧ (s.fillBuffer d poison).pending = s.pending := by
  unfold State.fillBuffer
  simp

@[simp] theorem State.fillDecoded_frame (s : State) (line : Nat) (l : Loc) (r : LineRead) :
    (s.fillDecoded line l r).pins = s.pins ∧ (s.fillDecoded line l r).aif = s.aif ∧
    (s.fillDecoded line l r).lrt = s.lrt ∧ (s.fillDecoded line l r).pool = s.pool ∧
    (s.fillDecoded line l r).olt = s.olt ∧ (s.fillDecoded line l r).policy = s.policy ∧
    (s.fillDecoded line l r).suspects = s.suspects ∧ (s.fillDecoded line l r).rtq = s.rtq ∧
    (s.fillDecoded line l r).patrol = s.patrol ∧ (s.fillDecoded line l r).regions = s.regions ∧
    (s.fillDecoded line l r).ports = s.ports ∧ (s.fillDecoded line l r).arbiter = s.arbiter ∧
    (s.fillDecoded line l r).ctl = s.ctl ∧ (s.fillDecoded line l r).cmd = s.cmd ∧
    (s.fillDecoded line l r).responses = s.responses ∧ (s.fillDecoded line l r).freeReads = s.freeReads ∧
    (s.fillDecoded line l r).pending = s.pending := by
  unfold State.fillDecoded
  (repeat' split) <;> simp

@[simp] theorem State.afterCopyRead_frame (s : State) (k : Nat) (waiterFirst : Bool) :
    (s.afterCopyRead k waiterFirst).pins = s.pins ∧ (s.afterCopyRead k waiterFirst).lrt = s.lrt ∧
    (s.afterCopyRead k waiterFirst).pool = s.pool ∧ (s.afterCopyRead k waiterFirst).policy = s.policy ∧
    (s.afterCopyRead k waiterFirst).suspects = s.suspects ∧ (s.afterCopyRead k waiterFirst).rtq = s.rtq ∧
    (s.afterCopyRead k waiterFirst).regions = s.regions ∧
    (s.afterCopyRead k waiterFirst).arbiter = s.arbiter ∧ (s.afterCopyRead k waiterFirst).ctl = s.ctl ∧
    (s.afterCopyRead k waiterFirst).freeReads = s.freeReads ∧
    (s.afterCopyRead k waiterFirst).pending = s.pending := by
  unfold State.afterCopyRead
  (repeat' split) <;> simp

@[simp] theorem State.copyReadDone_frame (s : State) (k : Nat) (waiterFirst : Bool) :
    (s.copyReadDone k waiterFirst).pins = s.pins ∧ (s.copyReadDone k waiterFirst).lrt = s.lrt ∧
    (s.copyReadDone k waiterFirst).pool = s.pool ∧ (s.copyReadDone k waiterFirst).policy = s.policy ∧
    (s.copyReadDone k waiterFirst).suspects = s.suspects ∧ (s.copyReadDone k waiterFirst).rtq = s.rtq ∧
    (s.copyReadDone k waiterFirst).regions = s.regions ∧
    (s.copyReadDone k waiterFirst).arbiter = s.arbiter ∧ (s.copyReadDone k waiterFirst).ctl = s.ctl ∧
    (s.copyReadDone k waiterFirst).pending = s.pending := by
  unfold State.copyReadDone
  (repeat' split) <;> simp

@[simp] theorem State.targetWriteDone_frame (s : State) :
    (s.targetWriteDone).pins = s.pins ∧ (s.targetWriteDone).lrt = s.lrt ∧
    (s.targetWriteDone).pool = s.pool ∧ (s.targetWriteDone).olt = s.olt ∧
    (s.targetWriteDone).policy = s.policy ∧ (s.targetWriteDone).suspects = s.suspects ∧
    (s.targetWriteDone).rtq = s.rtq ∧ (s.targetWriteDone).patrol = s.patrol ∧
    (s.targetWriteDone).erq = s.erq ∧ (s.targetWriteDone).irq = s.irq ∧
    (s.targetWriteDone).regions = s.regions ∧ (s.targetWriteDone).ports = s.ports ∧
    (s.targetWriteDone).arbiter = s.arbiter ∧ (s.targetWriteDone).ctl = s.ctl ∧
    (s.targetWriteDone).cmd = s.cmd ∧ (s.targetWriteDone).counters = s.counters ∧
    (s.targetWriteDone).responses = s.responses ∧ (s.targetWriteDone).pending = s.pending := by
  unfold State.targetWriteDone
  (repeat' split) <;> simp

@[simp] theorem State.verifyOutcome_frame (s : State) (i : RetireItem) (o : LineOutcome) :
    (s.verifyOutcome i o).pins = s.pins ∧ (s.verifyOutcome i o).policy = s.policy ∧
    (s.verifyOutcome i o).rtq = s.rtq ∧ (s.verifyOutcome i o).patrol = s.patrol ∧
    (s.verifyOutcome i o).regions = s.regions ∧ (s.verifyOutcome i o).ports = s.ports ∧
    (s.verifyOutcome i o).arbiter = s.arbiter ∧ (s.verifyOutcome i o).ctl = s.ctl ∧
    (s.verifyOutcome i o).responses = s.responses ∧ (s.verifyOutcome i o).freeReads = s.freeReads ∧
    (s.verifyOutcome i o).pending = s.pending := by
  unfold State.verifyOutcome
  (repeat' split) <;> simp

@[simp] theorem State.verifyDone_frame (s : State) :
    (s.verifyDone).pins = s.pins ∧ (s.verifyDone).policy = s.policy ∧ (s.verifyDone).rtq = s.rtq ∧
    (s.verifyDone).patrol = s.patrol ∧ (s.verifyDone).regions = s.regions ∧
    (s.verifyDone).ports = s.ports ∧ (s.verifyDone).arbiter = s.arbiter ∧ (s.verifyDone).ctl = s.ctl ∧
    (s.verifyDone).responses = s.responses ∧ (s.verifyDone).pending = s.pending := by
  unfold State.verifyDone
  (repeat' split) <;> simp

@[simp] theorem State.lateEntry_frame (s : State) (k : Nat) :
    (s.lateEntry k).pins = s.pins ∧ (s.lateEntry k).lrt = s.lrt ∧ (s.lateEntry k).pool = s.pool ∧
    (s.lateEntry k).copy = s.copy ∧ (s.lateEntry k).policy = s.policy ∧
    (s.lateEntry k).suspects = s.suspects ∧ (s.lateEntry k).rtq = s.rtq ∧
    (s.lateEntry k).patrol = s.patrol ∧ (s.lateEntry k).erq = s.erq ∧ (s.lateEntry k).irq = s.irq ∧
    (s.lateEntry k).regions = s.regions ∧ (s.lateEntry k).ports = s.ports ∧
    (s.lateEntry k).arbiter = s.arbiter ∧ (s.lateEntry k).ctl = s.ctl ∧ (s.lateEntry k).cmd = s.cmd ∧
    (s.lateEntry k).counters = s.counters ∧ (s.lateEntry k).responses = s.responses ∧
    (s.lateEntry k).pending = s.pending := by
  unfold State.lateEntry
  (repeat' split) <;> simp

@[simp] theorem State.lateArray_frame (s : State) (phys : Nat) :
    (s.lateArray phys).pins = s.pins ∧ (s.lateArray phys).lrt = s.lrt ∧ (s.lateArray phys).pool = s.pool ∧
    (s.lateArray phys).copy = s.copy ∧ (s.lateArray phys).olt = s.olt ∧
    (s.lateArray phys).policy = s.policy ∧ (s.lateArray phys).suspects = s.suspects ∧
    (s.lateArray phys).rtq = s.rtq ∧ (s.lateArray phys).patrol = s.patrol ∧
    (s.lateArray phys).erq = s.erq ∧ (s.lateArray phys).irq = s.irq ∧
    (s.lateArray phys).regions = s.regions ∧ (s.lateArray phys).ports = s.ports ∧
    (s.lateArray phys).arbiter = s.arbiter ∧ (s.lateArray phys).ctl = s.ctl ∧
    (s.lateArray phys).cmd = s.cmd ∧ (s.lateArray phys).counters = s.counters ∧
    (s.lateArray phys).responses = s.responses ∧ (s.lateArray phys).pending = s.pending := by
  unfold State.lateArray
  (repeat' split) <;> simp

@[simp] theorem State.lateDone_frame (s : State) (op : LateOp) :
    (s.lateDone op).pins = s.pins ∧ (s.lateDone op).lrt = s.lrt ∧ (s.lateDone op).pool = s.pool ∧
    (s.lateDone op).copy = s.copy ∧ (s.lateDone op).policy = s.policy ∧
    (s.lateDone op).suspects = s.suspects ∧ (s.lateDone op).rtq = s.rtq ∧
    (s.lateDone op).patrol = s.patrol ∧ (s.lateDone op).erq = s.erq ∧ (s.lateDone op).irq = s.irq ∧
    (s.lateDone op).regions = s.regions ∧ (s.lateDone op).ports = s.ports ∧
    (s.lateDone op).arbiter = s.arbiter ∧ (s.lateDone op).ctl = s.ctl ∧ (s.lateDone op).cmd = s.cmd ∧
    (s.lateDone op).counters = s.counters ∧ (s.lateDone op).responses = s.responses ∧
    (s.lateDone op).pending = s.pending := by
  cases op <;> simp [State.lateDone]

@[simp] theorem State.startIfDue_frame (s : State) :
    (s.startIfDue).pins = s.pins ∧ (s.startIfDue).aif = s.aif ∧ (s.startIfDue).olt = s.olt ∧
    (s.startIfDue).policy = s.policy ∧ (s.startIfDue).patrol = s.patrol ∧
    (s.startIfDue).regions = s.regions ∧ (s.startIfDue).ports = s.ports ∧
    (s.startIfDue).arbiter = s.arbiter ∧ (s.startIfDue).ctl = s.ctl ∧
    (s.startIfDue).responses = s.responses ∧ (s.startIfDue).freeReads = s.freeReads ∧
    (s.startIfDue).pending = s.pending := by
  unfold State.startIfDue
  (repeat' split) <;> simp

@[simp] theorem State.expireTimer_frame (s : State) :
    (s.expireTimer).pins = s.pins ∧ (s.expireTimer).aif = s.aif ∧ (s.expireTimer).lrt = s.lrt ∧
    (s.expireTimer).pool = s.pool ∧ (s.expireTimer).copy = s.copy ∧ (s.expireTimer).olt = s.olt ∧
    (s.expireTimer).policy = s.policy ∧ (s.expireTimer).rtq = s.rtq ∧ (s.expireTimer).regions = s.regions ∧
    (s.expireTimer).ports = s.ports ∧ (s.expireTimer).arbiter = s.arbiter ∧ (s.expireTimer).ctl = s.ctl ∧
    (s.expireTimer).cmd = s.cmd ∧ (s.expireTimer).responses = s.responses ∧
    (s.expireTimer).freeReads = s.freeReads ∧ (s.expireTimer).pending = s.pending := by
  unfold State.expireTimer
  (repeat' split) <;> simp

@[simp] theorem State.fillIssue_frame (s : State) :
    (s.fillIssue).pins = s.pins ∧ (s.fillIssue).lrt = s.lrt ∧ (s.fillIssue).pool = s.pool ∧
    (s.fillIssue).copy = s.copy ∧ (s.fillIssue).olt = s.olt ∧ (s.fillIssue).policy = s.policy ∧
    (s.fillIssue).suspects = s.suspects ∧ (s.fillIssue).rtq = s.rtq ∧ (s.fillIssue).patrol = s.patrol ∧
    (s.fillIssue).erq = s.erq ∧ (s.fillIssue).irq = s.irq ∧ (s.fillIssue).regions = s.regions ∧
    (s.fillIssue).ports = s.ports ∧ (s.fillIssue).arbiter = s.arbiter ∧ (s.fillIssue).cmd = s.cmd ∧
    (s.fillIssue).counters = s.counters ∧ (s.fillIssue).responses = s.responses ∧
    (s.fillIssue).freeReads = s.freeReads ∧ (s.fillIssue).pending = s.pending := by
  unfold State.fillIssue
  (repeat' split) <;> simp

@[simp] theorem State.fillDone_frame (s : State) (line : Nat) :
    (s.fillDone line).pins = s.pins ∧ (s.fillDone line).lrt = s.lrt ∧ (s.fillDone line).pool = s.pool ∧
    (s.fillDone line).copy = s.copy ∧ (s.fillDone line).olt = s.olt ∧ (s.fillDone line).policy = s.policy ∧
    (s.fillDone line).suspects = s.suspects ∧ (s.fillDone line).rtq = s.rtq ∧
    (s.fillDone line).patrol = s.patrol ∧ (s.fillDone line).erq = s.erq ∧ (s.fillDone line).irq = s.irq ∧
    (s.fillDone line).regions = s.regions ∧ (s.fillDone line).ports = s.ports ∧
    (s.fillDone line).arbiter = s.arbiter ∧ (s.fillDone line).ctl = s.ctl ∧ (s.fillDone line).cmd = s.cmd ∧
    (s.fillDone line).counters = s.counters ∧ (s.fillDone line).responses = s.responses ∧
    (s.fillDone line).pending = s.pending := by
  unfold State.fillDone
  (repeat' split) <;> simp

@[simp] theorem State.endFillIfDue_frame (s : State) :
    (s.endFillIfDue).pins = s.pins ∧ (s.endFillIfDue).aif = s.aif ∧ (s.endFillIfDue).lrt = s.lrt ∧
    (s.endFillIfDue).pool = s.pool ∧ (s.endFillIfDue).copy = s.copy ∧ (s.endFillIfDue).olt = s.olt ∧
    (s.endFillIfDue).policy = s.policy ∧ (s.endFillIfDue).suspects = s.suspects ∧
    (s.endFillIfDue).rtq = s.rtq ∧ (s.endFillIfDue).patrol = s.patrol ∧ (s.endFillIfDue).erq = s.erq ∧
    (s.endFillIfDue).regions = s.regions ∧ (s.endFillIfDue).ports = s.ports ∧
    (s.endFillIfDue).arbiter = s.arbiter ∧ (s.endFillIfDue).counters = s.counters ∧
    (s.endFillIfDue).responses = s.responses ∧ (s.endFillIfDue).freeReads = s.freeReads ∧
    (s.endFillIfDue).pending = s.pending := by
  unfold State.endFillIfDue
  (repeat' split) <;> simp

@[simp] theorem State.endDrainIfDue_frame (s : State) :
    (s.endDrainIfDue).pins = s.pins ∧ (s.endDrainIfDue).aif = s.aif ∧ (s.endDrainIfDue).lrt = s.lrt ∧
    (s.endDrainIfDue).pool = s.pool ∧ (s.endDrainIfDue).copy = s.copy ∧ (s.endDrainIfDue).olt = s.olt ∧
    (s.endDrainIfDue).policy = s.policy ∧ (s.endDrainIfDue).suspects = s.suspects ∧
    (s.endDrainIfDue).rtq = s.rtq ∧ (s.endDrainIfDue).patrol = s.patrol ∧ (s.endDrainIfDue).erq = s.erq ∧
    (s.endDrainIfDue).regions = s.regions ∧ (s.endDrainIfDue).ports = s.ports ∧
    (s.endDrainIfDue).arbiter = s.arbiter ∧ (s.endDrainIfDue).counters = s.counters ∧
    (s.endDrainIfDue).responses = s.responses ∧ (s.endDrainIfDue).freeReads = s.freeReads ∧
    (s.endDrainIfDue).pending = s.pending := by
  unfold State.endDrainIfDue
  (repeat' split) <;> simp

@[simp] theorem State.endHaltIfDue_frame (s : State) :
    (s.endHaltIfDue).pins = s.pins ∧ (s.endHaltIfDue).aif = s.aif ∧ (s.endHaltIfDue).lrt = s.lrt ∧
    (s.endHaltIfDue).pool = s.pool ∧ (s.endHaltIfDue).copy = s.copy ∧ (s.endHaltIfDue).olt = s.olt ∧
    (s.endHaltIfDue).policy = s.policy ∧ (s.endHaltIfDue).suspects = s.suspects ∧
    (s.endHaltIfDue).rtq = s.rtq ∧ (s.endHaltIfDue).patrol = s.patrol ∧ (s.endHaltIfDue).erq = s.erq ∧
    (s.endHaltIfDue).regions = s.regions ∧ (s.endHaltIfDue).ports = s.ports ∧
    (s.endHaltIfDue).arbiter = s.arbiter ∧ (s.endHaltIfDue).counters = s.counters ∧
    (s.endHaltIfDue).responses = s.responses ∧ (s.endHaltIfDue).freeReads = s.freeReads ∧
    (s.endHaltIfDue).pending = s.pending := by
  unfold State.endHaltIfDue
  (repeat' split) <;> simp

@[simp] theorem State.cellFault_frame (s : State) (phys word : Nat) (bits : BitVec 72) :
    (s.cellFault phys word bits).pins = s.pins ∧ (s.cellFault phys word bits).lrt = s.lrt ∧
    (s.cellFault phys word bits).pool = s.pool ∧ (s.cellFault phys word bits).copy = s.copy ∧
    (s.cellFault phys word bits).olt = s.olt ∧ (s.cellFault phys word bits).policy = s.policy ∧
    (s.cellFault phys word bits).suspects = s.suspects ∧ (s.cellFault phys word bits).rtq = s.rtq ∧
    (s.cellFault phys word bits).patrol = s.patrol ∧ (s.cellFault phys word bits).erq = s.erq ∧
    (s.cellFault phys word bits).irq = s.irq ∧ (s.cellFault phys word bits).regions = s.regions ∧
    (s.cellFault phys word bits).ports = s.ports ∧ (s.cellFault phys word bits).arbiter = s.arbiter ∧
    (s.cellFault phys word bits).ctl = s.ctl ∧ (s.cellFault phys word bits).cmd = s.cmd ∧
    (s.cellFault phys word bits).counters = s.counters ∧
    (s.cellFault phys word bits).responses = s.responses ∧
    (s.cellFault phys word bits).freeReads = s.freeReads ∧ (s.cellFault phys word bits).pending = s.pending := by
  unfold State.cellFault
  (repeat' split) <;> simp

@[simp] theorem State.takeInit_frame (s : State) :
    (s.takeInit).pins = s.pins ∧ (s.takeInit).aif = s.aif ∧ (s.takeInit).lrt = s.lrt ∧
    (s.takeInit).pool = s.pool ∧ (s.takeInit).copy = s.copy ∧ (s.takeInit).olt = s.olt ∧
    (s.takeInit).policy = s.policy ∧ (s.takeInit).erq = s.erq ∧ (s.takeInit).irq = s.irq ∧
    (s.takeInit).regions = s.regions ∧ (s.takeInit).ports = s.ports ∧ (s.takeInit).arbiter = s.arbiter ∧
    (s.takeInit).counters = s.counters ∧ (s.takeInit).responses = s.responses ∧
    (s.takeInit).freeReads = s.freeReads ∧ (s.takeInit).pending = s.pending := by
  unfold State.takeInit
  simp

@[simp] theorem State.takeStart_frame (s : State) :
    (s.takeStart).pins = s.pins ∧ (s.takeStart).aif = s.aif ∧ (s.takeStart).lrt = s.lrt ∧
    (s.takeStart).pool = s.pool ∧ (s.takeStart).copy = s.copy ∧ (s.takeStart).olt = s.olt ∧
    (s.takeStart).policy = s.policy ∧ (s.takeStart).suspects = s.suspects ∧ (s.takeStart).rtq = s.rtq ∧
    (s.takeStart).patrol = s.patrol ∧ (s.takeStart).erq = s.erq ∧ (s.takeStart).regions = s.regions ∧
    (s.takeStart).ports = s.ports ∧ (s.takeStart).arbiter = s.arbiter ∧
    (s.takeStart).counters = s.counters ∧ (s.takeStart).responses = s.responses ∧
    (s.takeStart).freeReads = s.freeReads ∧ (s.takeStart).pending = s.pending := by
  unfold State.takeStart
  simp

@[simp] theorem State.stopRunning_frame (s : State) :
    (s.stopRunning).pins = s.pins ∧ (s.stopRunning).aif = s.aif ∧ (s.stopRunning).lrt = s.lrt ∧
    (s.stopRunning).pool = s.pool ∧ (s.stopRunning).copy = s.copy ∧ (s.stopRunning).olt = s.olt ∧
    (s.stopRunning).policy = s.policy ∧ (s.stopRunning).suspects = s.suspects ∧
    (s.stopRunning).rtq = s.rtq ∧ (s.stopRunning).erq = s.erq ∧ (s.stopRunning).regions = s.regions ∧
    (s.stopRunning).ports = s.ports ∧ (s.stopRunning).counters = s.counters ∧
    (s.stopRunning).responses = s.responses ∧ (s.stopRunning).freeReads = s.freeReads ∧
    (s.stopRunning).pending = s.pending := by
  unfold State.stopRunning
  (repeat' (first | split | dsimp only)) <;> simp

@[simp] theorem State.stopHalted_frame (s : State) :
    (s.stopHalted).pins = s.pins ∧ (s.stopHalted).aif = s.aif ∧ (s.stopHalted).lrt = s.lrt ∧
    (s.stopHalted).pool = s.pool ∧ (s.stopHalted).copy = s.copy ∧ (s.stopHalted).olt = s.olt ∧
    (s.stopHalted).policy = s.policy ∧ (s.stopHalted).suspects = s.suspects ∧ (s.stopHalted).rtq = s.rtq ∧
    (s.stopHalted).patrol = s.patrol ∧ (s.stopHalted).erq = s.erq ∧ (s.stopHalted).regions = s.regions ∧
    (s.stopHalted).ports = s.ports ∧ (s.stopHalted).arbiter = s.arbiter ∧
    (s.stopHalted).counters = s.counters ∧ (s.stopHalted).responses = s.responses ∧
    (s.stopHalted).freeReads = s.freeReads ∧ (s.stopHalted).pending = s.pending := by
  unfold State.stopHalted
  (repeat' split) <;> simp

@[simp] theorem State.takeStop_frame (s : State) :
    (s.takeStop).pins = s.pins ∧ (s.takeStop).aif = s.aif ∧ (s.takeStop).lrt = s.lrt ∧
    (s.takeStop).pool = s.pool ∧ (s.takeStop).copy = s.copy ∧ (s.takeStop).olt = s.olt ∧
    (s.takeStop).policy = s.policy ∧ (s.takeStop).suspects = s.suspects ∧ (s.takeStop).rtq = s.rtq ∧
    (s.takeStop).erq = s.erq ∧ (s.takeStop).regions = s.regions ∧ (s.takeStop).ports = s.ports ∧
    (s.takeStop).counters = s.counters ∧ (s.takeStop).responses = s.responses ∧
    (s.takeStop).freeReads = s.freeReads ∧ (s.takeStop).pending = s.pending := by
  unfold State.takeStop
  (repeat' split) <;> simp

@[simp] theorem State.putRegion_frame (s : State) (index : Nat) (r : Option Region) :
    (s.putRegion index r).pins = s.pins ∧ (s.putRegion index r).aif = s.aif ∧
    (s.putRegion index r).lrt = s.lrt ∧ (s.putRegion index r).pool = s.pool ∧
    (s.putRegion index r).copy = s.copy ∧ (s.putRegion index r).olt = s.olt ∧
    (s.putRegion index r).policy = s.policy ∧ (s.putRegion index r).suspects = s.suspects ∧
    (s.putRegion index r).rtq = s.rtq ∧ (s.putRegion index r).patrol = s.patrol ∧
    (s.putRegion index r).erq = s.erq ∧ (s.putRegion index r).irq = s.irq ∧
    (s.putRegion index r).ports = s.ports ∧ (s.putRegion index r).arbiter = s.arbiter ∧
    (s.putRegion index r).ctl = s.ctl ∧ (s.putRegion index r).cmd = s.cmd ∧
    (s.putRegion index r).counters = s.counters ∧ (s.putRegion index r).responses = s.responses ∧
    (s.putRegion index r).freeReads = s.freeReads ∧ (s.putRegion index r).pending = s.pending := by
  unfold State.putRegion
  simp

@[simp] theorem State.takeSetRegion_frame (s : State) :
    (s.takeSetRegion).pins = s.pins ∧ (s.takeSetRegion).aif = s.aif ∧ (s.takeSetRegion).lrt = s.lrt ∧
    (s.takeSetRegion).pool = s.pool ∧ (s.takeSetRegion).copy = s.copy ∧ (s.takeSetRegion).olt = s.olt ∧
    (s.takeSetRegion).policy = s.policy ∧ (s.takeSetRegion).suspects = s.suspects ∧
    (s.takeSetRegion).rtq = s.rtq ∧ (s.takeSetRegion).patrol = s.patrol ∧ (s.takeSetRegion).erq = s.erq ∧
    (s.takeSetRegion).ports = s.ports ∧ (s.takeSetRegion).arbiter = s.arbiter ∧
    (s.takeSetRegion).ctl = s.ctl ∧ (s.takeSetRegion).counters = s.counters ∧
    (s.takeSetRegion).responses = s.responses ∧ (s.takeSetRegion).freeReads = s.freeReads ∧
    (s.takeSetRegion).pending = s.pending := by
  unfold State.takeSetRegion
  (repeat' split) <;> simp

@[simp] theorem State.takeClearRegion_frame (s : State) :
    (s.takeClearRegion).pins = s.pins ∧ (s.takeClearRegion).aif = s.aif ∧ (s.takeClearRegion).lrt = s.lrt ∧
    (s.takeClearRegion).pool = s.pool ∧ (s.takeClearRegion).copy = s.copy ∧
    (s.takeClearRegion).olt = s.olt ∧ (s.takeClearRegion).policy = s.policy ∧
    (s.takeClearRegion).suspects = s.suspects ∧ (s.takeClearRegion).rtq = s.rtq ∧
    (s.takeClearRegion).patrol = s.patrol ∧ (s.takeClearRegion).erq = s.erq ∧
    (s.takeClearRegion).ports = s.ports ∧ (s.takeClearRegion).arbiter = s.arbiter ∧
    (s.takeClearRegion).ctl = s.ctl ∧ (s.takeClearRegion).counters = s.counters ∧
    (s.takeClearRegion).responses = s.responses ∧ (s.takeClearRegion).freeReads = s.freeReads ∧
    (s.takeClearRegion).pending = s.pending := by
  unfold State.takeClearRegion
  (repeat' split) <;> simp

@[simp] theorem State.offerCommandItem_frame (s : State) (c : Command) (line : Nat) (a : ItemAction) :
    (s.offerCommandItem c line a).pins = s.pins ∧ (s.offerCommandItem c line a).aif = s.aif ∧
    (s.offerCommandItem c line a).lrt = s.lrt ∧ (s.offerCommandItem c line a).pool = s.pool ∧
    (s.offerCommandItem c line a).copy = s.copy ∧ (s.offerCommandItem c line a).olt = s.olt ∧
    (s.offerCommandItem c line a).policy = s.policy ∧ (s.offerCommandItem c line a).suspects = s.suspects ∧
    (s.offerCommandItem c line a).patrol = s.patrol ∧ (s.offerCommandItem c line a).erq = s.erq ∧
    (s.offerCommandItem c line a).regions = s.regions ∧ (s.offerCommandItem c line a).ports = s.ports ∧
    (s.offerCommandItem c line a).arbiter = s.arbiter ∧ (s.offerCommandItem c line a).ctl = s.ctl ∧
    (s.offerCommandItem c line a).counters = s.counters ∧
    (s.offerCommandItem c line a).responses = s.responses ∧
    (s.offerCommandItem c line a).freeReads = s.freeReads ∧
    (s.offerCommandItem c line a).pending = s.pending := by
  unfold State.offerCommandItem
  (repeat' split) <;> simp

@[simp] theorem State.takeRetire_frame (s : State) :
    (s.takeRetire).pins = s.pins ∧ (s.takeRetire).aif = s.aif ∧ (s.takeRetire).lrt = s.lrt ∧
    (s.takeRetire).pool = s.pool ∧ (s.takeRetire).copy = s.copy ∧ (s.takeRetire).olt = s.olt ∧
    (s.takeRetire).policy = s.policy ∧ (s.takeRetire).suspects = s.suspects ∧
    (s.takeRetire).patrol = s.patrol ∧ (s.takeRetire).erq = s.erq ∧ (s.takeRetire).regions = s.regions ∧
    (s.takeRetire).ports = s.ports ∧ (s.takeRetire).arbiter = s.arbiter ∧ (s.takeRetire).ctl = s.ctl ∧
    (s.takeRetire).counters = s.counters ∧ (s.takeRetire).responses = s.responses ∧
    (s.takeRetire).freeReads = s.freeReads ∧ (s.takeRetire).pending = s.pending := by
  unfold State.takeRetire
  (repeat' split) <;> simp

@[simp] theorem State.takeRelease_frame (s : State) :
    (s.takeRelease).pins = s.pins ∧ (s.takeRelease).aif = s.aif ∧ (s.takeRelease).lrt = s.lrt ∧
    (s.takeRelease).pool = s.pool ∧ (s.takeRelease).copy = s.copy ∧ (s.takeRelease).olt = s.olt ∧
    (s.takeRelease).policy = s.policy ∧ (s.takeRelease).suspects = s.suspects ∧
    (s.takeRelease).patrol = s.patrol ∧ (s.takeRelease).erq = s.erq ∧ (s.takeRelease).regions = s.regions ∧
    (s.takeRelease).ports = s.ports ∧ (s.takeRelease).arbiter = s.arbiter ∧ (s.takeRelease).ctl = s.ctl ∧
    (s.takeRelease).counters = s.counters ∧ (s.takeRelease).responses = s.responses ∧
    (s.takeRelease).freeReads = s.freeReads ∧ (s.takeRelease).pending = s.pending := by
  unfold State.takeRelease
  (repeat' split) <;> simp

@[simp] theorem State.takeLoadRemap_frame (s : State) :
    (s.takeLoadRemap).pins = s.pins ∧ (s.takeLoadRemap).aif = s.aif ∧ (s.takeLoadRemap).copy = s.copy ∧
    (s.takeLoadRemap).olt = s.olt ∧ (s.takeLoadRemap).policy = s.policy ∧
    (s.takeLoadRemap).suspects = s.suspects ∧ (s.takeLoadRemap).rtq = s.rtq ∧
    (s.takeLoadRemap).patrol = s.patrol ∧ (s.takeLoadRemap).erq = s.erq ∧
    (s.takeLoadRemap).regions = s.regions ∧ (s.takeLoadRemap).ports = s.ports ∧
    (s.takeLoadRemap).arbiter = s.arbiter ∧ (s.takeLoadRemap).ctl = s.ctl ∧
    (s.takeLoadRemap).counters = s.counters ∧ (s.takeLoadRemap).responses = s.responses ∧
    (s.takeLoadRemap).freeReads = s.freeReads ∧ (s.takeLoadRemap).pending = s.pending := by
  unfold State.takeLoadRemap
  (repeat' split) <;> simp

@[simp] theorem State.takeMarkSpareBad_frame (s : State) :
    (s.takeMarkSpareBad).pins = s.pins ∧ (s.takeMarkSpareBad).aif = s.aif ∧
    (s.takeMarkSpareBad).lrt = s.lrt ∧ (s.takeMarkSpareBad).copy = s.copy ∧
    (s.takeMarkSpareBad).olt = s.olt ∧ (s.takeMarkSpareBad).policy = s.policy ∧
    (s.takeMarkSpareBad).suspects = s.suspects ∧ (s.takeMarkSpareBad).rtq = s.rtq ∧
    (s.takeMarkSpareBad).patrol = s.patrol ∧ (s.takeMarkSpareBad).regions = s.regions ∧
    (s.takeMarkSpareBad).ports = s.ports ∧ (s.takeMarkSpareBad).arbiter = s.arbiter ∧
    (s.takeMarkSpareBad).ctl = s.ctl ∧ (s.takeMarkSpareBad).responses = s.responses ∧
    (s.takeMarkSpareBad).freeReads = s.freeReads ∧ (s.takeMarkSpareBad).pending = s.pending := by
  unfold State.takeMarkSpareBad
  (repeat' split) <;> simp

@[simp] theorem State.takeScrub_frame (s : State) :
    (s.takeScrub).pins = s.pins ∧ (s.takeScrub).aif = s.aif ∧ (s.takeScrub).lrt = s.lrt ∧
    (s.takeScrub).pool = s.pool ∧ (s.takeScrub).copy = s.copy ∧ (s.takeScrub).olt = s.olt ∧
    (s.takeScrub).policy = s.policy ∧ (s.takeScrub).suspects = s.suspects ∧ (s.takeScrub).rtq = s.rtq ∧
    (s.takeScrub).erq = s.erq ∧ (s.takeScrub).regions = s.regions ∧ (s.takeScrub).ports = s.ports ∧
    (s.takeScrub).ctl = s.ctl ∧ (s.takeScrub).counters = s.counters ∧
    (s.takeScrub).responses = s.responses ∧ (s.takeScrub).freeReads = s.freeReads ∧
    (s.takeScrub).pending = s.pending := by
  unfold State.takeScrub
  (repeat' split) <;> simp

@[simp] theorem State.takeInject_frame (s : State) :
    (s.takeInject).pins = s.pins ∧ (s.takeInject).lrt = s.lrt ∧ (s.takeInject).pool = s.pool ∧
    (s.takeInject).copy = s.copy ∧ (s.takeInject).olt = s.olt ∧ (s.takeInject).policy = s.policy ∧
    (s.takeInject).suspects = s.suspects ∧ (s.takeInject).rtq = s.rtq ∧ (s.takeInject).patrol = s.patrol ∧
    (s.takeInject).erq = s.erq ∧ (s.takeInject).regions = s.regions ∧ (s.takeInject).ports = s.ports ∧
    (s.takeInject).arbiter = s.arbiter ∧ (s.takeInject).ctl = s.ctl ∧
    (s.takeInject).counters = s.counters ∧ (s.takeInject).responses = s.responses ∧
    (s.takeInject).freeReads = s.freeReads ∧ (s.takeInject).pending = s.pending := by
  unfold State.takeInject
  (repeat' split) <;> simp

@[simp] theorem State.takeClearSuspects_frame (s : State) :
    (s.takeClearSuspects).pins = s.pins ∧ (s.takeClearSuspects).aif = s.aif ∧
    (s.takeClearSuspects).lrt = s.lrt ∧ (s.takeClearSuspects).pool = s.pool ∧
    (s.takeClearSuspects).copy = s.copy ∧ (s.takeClearSuspects).olt = s.olt ∧
    (s.takeClearSuspects).policy = s.policy ∧ (s.takeClearSuspects).rtq = s.rtq ∧
    (s.takeClearSuspects).patrol = s.patrol ∧ (s.takeClearSuspects).erq = s.erq ∧
    (s.takeClearSuspects).regions = s.regions ∧ (s.takeClearSuspects).ports = s.ports ∧
    (s.takeClearSuspects).arbiter = s.arbiter ∧ (s.takeClearSuspects).ctl = s.ctl ∧
    (s.takeClearSuspects).counters = s.counters ∧ (s.takeClearSuspects).responses = s.responses ∧
    (s.takeClearSuspects).freeReads = s.freeReads ∧ (s.takeClearSuspects).pending = s.pending := by
  unfold State.takeClearSuspects
  simp

@[simp] theorem State.take_frame (s : State) (c : Command) :
    (s.take c).pins = s.pins ∧ (s.take c).copy = s.copy ∧ (s.take c).olt = s.olt ∧
    (s.take c).policy = s.policy ∧ (s.take c).ports = s.ports ∧ (s.take c).responses = s.responses ∧
    (s.take c).freeReads = s.freeReads ∧ (s.take c).pending = s.pending := by
  cases c <;> simp [State.take]

@[simp] theorem State.tryTake_frame (s : State) (c : Command) :
    (s.tryTake c).pins = s.pins ∧ (s.tryTake c).copy = s.copy ∧ (s.tryTake c).olt = s.olt ∧
    (s.tryTake c).policy = s.policy ∧ (s.tryTake c).ports = s.ports ∧
    (s.tryTake c).responses = s.responses ∧ (s.tryTake c).freeReads = s.freeReads ∧
    (s.tryTake c).pending = s.pending := by
  unfold State.tryTake
  (repeat' split) <;> simp

@[simp] theorem State.takeCode_frame (s : State) (code : Word32) :
    (s.takeCode code).pins = s.pins ∧ (s.takeCode code).copy = s.copy ∧ (s.takeCode code).olt = s.olt ∧
    (s.takeCode code).policy = s.policy ∧ (s.takeCode code).ports = s.ports ∧
    (s.takeCode code).responses = s.responses ∧ (s.takeCode code).freeReads = s.freeReads ∧
    (s.takeCode code).pending = s.pending := by
  unfold State.takeCode
  (repeat' split) <;> simp

@[simp] theorem State.writeCode_frame (s : State) (code : Word32) :
    (s.writeCode code).pins = s.pins ∧ (s.writeCode code).copy = s.copy ∧ (s.writeCode code).olt = s.olt ∧
    (s.writeCode code).policy = s.policy ∧ (s.writeCode code).ports = s.ports ∧
    (s.writeCode code).responses = s.responses ∧ (s.writeCode code).freeReads = s.freeReads ∧
    (s.writeCode code).pending = s.pending := by
  unfold State.writeCode
  (repeat' split) <;> simp

@[simp] theorem State.writeArrayCfg_frame (s : State) (v : Word32) :
    (s.writeArrayCfg v).pins = s.pins ∧ (s.writeArrayCfg v).lrt = s.lrt ∧
    (s.writeArrayCfg v).pool = s.pool ∧ (s.writeArrayCfg v).copy = s.copy ∧
    (s.writeArrayCfg v).olt = s.olt ∧ (s.writeArrayCfg v).policy = s.policy ∧
    (s.writeArrayCfg v).suspects = s.suspects ∧ (s.writeArrayCfg v).rtq = s.rtq ∧
    (s.writeArrayCfg v).patrol = s.patrol ∧ (s.writeArrayCfg v).erq = s.erq ∧
    (s.writeArrayCfg v).irq = s.irq ∧ (s.writeArrayCfg v).regions = s.regions ∧
    (s.writeArrayCfg v).ports = s.ports ∧ (s.writeArrayCfg v).arbiter = s.arbiter ∧
    (s.writeArrayCfg v).ctl = s.ctl ∧ (s.writeArrayCfg v).cmd = s.cmd ∧
    (s.writeArrayCfg v).counters = s.counters ∧ (s.writeArrayCfg v).responses = s.responses ∧
    (s.writeArrayCfg v).freeReads = s.freeReads ∧ (s.writeArrayCfg v).pending = s.pending := by
  unfold State.writeArrayCfg
  (repeat' split) <;> simp

@[simp] theorem State.writePolicy_frame (s : State) (v : Word32) :
    (s.writePolicy v).pins = s.pins ∧ (s.writePolicy v).aif = s.aif ∧ (s.writePolicy v).lrt = s.lrt ∧
    (s.writePolicy v).pool = s.pool ∧ (s.writePolicy v).copy = s.copy ∧ (s.writePolicy v).olt = s.olt ∧
    (s.writePolicy v).suspects = s.suspects ∧ (s.writePolicy v).rtq = s.rtq ∧
    (s.writePolicy v).patrol = s.patrol ∧ (s.writePolicy v).erq = s.erq ∧ (s.writePolicy v).irq = s.irq ∧
    (s.writePolicy v).regions = s.regions ∧ (s.writePolicy v).ports = s.ports ∧
    (s.writePolicy v).arbiter = s.arbiter ∧ (s.writePolicy v).ctl = s.ctl ∧ (s.writePolicy v).cmd = s.cmd ∧
    (s.writePolicy v).counters = s.counters ∧ (s.writePolicy v).responses = s.responses ∧
    (s.writePolicy v).freeReads = s.freeReads ∧ (s.writePolicy v).pending = s.pending := by
  unfold State.writePolicy
  simp

@[simp] theorem State.writeSuspectCfg_frame (s : State) (v : Word32) :
    (s.writeSuspectCfg v).pins = s.pins ∧ (s.writeSuspectCfg v).aif = s.aif ∧
    (s.writeSuspectCfg v).lrt = s.lrt ∧ (s.writeSuspectCfg v).pool = s.pool ∧
    (s.writeSuspectCfg v).copy = s.copy ∧ (s.writeSuspectCfg v).olt = s.olt ∧
    (s.writeSuspectCfg v).policy = s.policy ∧ (s.writeSuspectCfg v).patrol = s.patrol ∧
    (s.writeSuspectCfg v).erq = s.erq ∧ (s.writeSuspectCfg v).irq = s.irq ∧
    (s.writeSuspectCfg v).regions = s.regions ∧ (s.writeSuspectCfg v).ports = s.ports ∧
    (s.writeSuspectCfg v).arbiter = s.arbiter ∧ (s.writeSuspectCfg v).ctl = s.ctl ∧
    (s.writeSuspectCfg v).cmd = s.cmd ∧ (s.writeSuspectCfg v).counters = s.counters ∧
    (s.writeSuspectCfg v).responses = s.responses ∧ (s.writeSuspectCfg v).freeReads = s.freeReads ∧
    (s.writeSuspectCfg v).pending = s.pending := by
  unfold State.writeSuspectCfg
  (repeat' split) <;> simp

@[simp] theorem State.writeSpareCfg_frame (s : State) (v : Word32) :
    (s.writeSpareCfg v).pins = s.pins ∧ (s.writeSpareCfg v).aif = s.aif ∧ (s.writeSpareCfg v).lrt = s.lrt ∧
    (s.writeSpareCfg v).copy = s.copy ∧ (s.writeSpareCfg v).olt = s.olt ∧
    (s.writeSpareCfg v).policy = s.policy ∧ (s.writeSpareCfg v).suspects = s.suspects ∧
    (s.writeSpareCfg v).rtq = s.rtq ∧ (s.writeSpareCfg v).patrol = s.patrol ∧
    (s.writeSpareCfg v).erq = s.erq ∧ (s.writeSpareCfg v).irq = s.irq ∧
    (s.writeSpareCfg v).regions = s.regions ∧ (s.writeSpareCfg v).ports = s.ports ∧
    (s.writeSpareCfg v).arbiter = s.arbiter ∧ (s.writeSpareCfg v).ctl = s.ctl ∧
    (s.writeSpareCfg v).cmd = s.cmd ∧ (s.writeSpareCfg v).counters = s.counters ∧
    (s.writeSpareCfg v).responses = s.responses ∧ (s.writeSpareCfg v).freeReads = s.freeReads ∧
    (s.writeSpareCfg v).pending = s.pending := by
  unfold State.writeSpareCfg
  (repeat' split) <;> simp

@[simp] theorem State.writeStage_frame (s : State) (g : Region) :
    (s.writeStage g).pins = s.pins ∧ (s.writeStage g).aif = s.aif ∧ (s.writeStage g).lrt = s.lrt ∧
    (s.writeStage g).pool = s.pool ∧ (s.writeStage g).copy = s.copy ∧ (s.writeStage g).olt = s.olt ∧
    (s.writeStage g).policy = s.policy ∧ (s.writeStage g).suspects = s.suspects ∧
    (s.writeStage g).rtq = s.rtq ∧ (s.writeStage g).patrol = s.patrol ∧ (s.writeStage g).erq = s.erq ∧
    (s.writeStage g).irq = s.irq ∧ (s.writeStage g).ports = s.ports ∧
    (s.writeStage g).arbiter = s.arbiter ∧ (s.writeStage g).ctl = s.ctl ∧ (s.writeStage g).cmd = s.cmd ∧
    (s.writeStage g).counters = s.counters ∧ (s.writeStage g).responses = s.responses ∧
    (s.writeStage g).freeReads = s.freeReads ∧ (s.writeStage g).pending = s.pending := by
  unfold State.writeStage
  simp

@[simp] theorem State.popRecord_frame (s : State) :
    (s.popRecord).pins = s.pins ∧ (s.popRecord).aif = s.aif ∧ (s.popRecord).lrt = s.lrt ∧
    (s.popRecord).pool = s.pool ∧ (s.popRecord).copy = s.copy ∧ (s.popRecord).olt = s.olt ∧
    (s.popRecord).policy = s.policy ∧ (s.popRecord).suspects = s.suspects ∧ (s.popRecord).rtq = s.rtq ∧
    (s.popRecord).patrol = s.patrol ∧ (s.popRecord).irq = s.irq ∧ (s.popRecord).regions = s.regions ∧
    (s.popRecord).ports = s.ports ∧ (s.popRecord).arbiter = s.arbiter ∧ (s.popRecord).ctl = s.ctl ∧
    (s.popRecord).cmd = s.cmd ∧ (s.popRecord).counters = s.counters ∧
    (s.popRecord).responses = s.responses ∧ (s.popRecord).freeReads = s.freeReads ∧
    (s.popRecord).pending = s.pending := by
  unfold State.popRecord
  simp

@[simp] theorem State.writeCause_frame (s : State) (v : Word32) :
    (s.writeCause v).pins = s.pins ∧ (s.writeCause v).aif = s.aif ∧ (s.writeCause v).lrt = s.lrt ∧
    (s.writeCause v).pool = s.pool ∧ (s.writeCause v).copy = s.copy ∧ (s.writeCause v).olt = s.olt ∧
    (s.writeCause v).policy = s.policy ∧ (s.writeCause v).suspects = s.suspects ∧
    (s.writeCause v).rtq = s.rtq ∧ (s.writeCause v).patrol = s.patrol ∧ (s.writeCause v).erq = s.erq ∧
    (s.writeCause v).regions = s.regions ∧ (s.writeCause v).ports = s.ports ∧
    (s.writeCause v).arbiter = s.arbiter ∧ (s.writeCause v).ctl = s.ctl ∧ (s.writeCause v).cmd = s.cmd ∧
    (s.writeCause v).counters = s.counters ∧ (s.writeCause v).responses = s.responses ∧
    (s.writeCause v).freeReads = s.freeReads ∧ (s.writeCause v).pending = s.pending := by
  unfold State.writeCause
  simp

@[simp] theorem State.writeEnable_frame (s : State) (v : Word32) :
    (s.writeEnable v).pins = s.pins ∧ (s.writeEnable v).aif = s.aif ∧ (s.writeEnable v).lrt = s.lrt ∧
    (s.writeEnable v).pool = s.pool ∧ (s.writeEnable v).copy = s.copy ∧ (s.writeEnable v).olt = s.olt ∧
    (s.writeEnable v).policy = s.policy ∧ (s.writeEnable v).suspects = s.suspects ∧
    (s.writeEnable v).rtq = s.rtq ∧ (s.writeEnable v).patrol = s.patrol ∧ (s.writeEnable v).erq = s.erq ∧
    (s.writeEnable v).regions = s.regions ∧ (s.writeEnable v).ports = s.ports ∧
    (s.writeEnable v).arbiter = s.arbiter ∧ (s.writeEnable v).ctl = s.ctl ∧ (s.writeEnable v).cmd = s.cmd ∧
    (s.writeEnable v).counters = s.counters ∧ (s.writeEnable v).responses = s.responses ∧
    (s.writeEnable v).freeReads = s.freeReads ∧ (s.writeEnable v).pending = s.pending := by
  unfold State.writeEnable
  simp

@[simp] theorem State.writeStatus_frame (s : State) (v : Word32) :
    (s.writeStatus v).pins = s.pins ∧ (s.writeStatus v).aif = s.aif ∧ (s.writeStatus v).lrt = s.lrt ∧
    (s.writeStatus v).pool = s.pool ∧ (s.writeStatus v).copy = s.copy ∧ (s.writeStatus v).olt = s.olt ∧
    (s.writeStatus v).policy = s.policy ∧ (s.writeStatus v).suspects = s.suspects ∧
    (s.writeStatus v).rtq = s.rtq ∧ (s.writeStatus v).patrol = s.patrol ∧ (s.writeStatus v).erq = s.erq ∧
    (s.writeStatus v).irq = s.irq ∧ (s.writeStatus v).regions = s.regions ∧
    (s.writeStatus v).ports = s.ports ∧ (s.writeStatus v).arbiter = s.arbiter ∧
    (s.writeStatus v).ctl = s.ctl ∧ (s.writeStatus v).counters = s.counters ∧
    (s.writeStatus v).responses = s.responses ∧ (s.writeStatus v).freeReads = s.freeReads ∧
    (s.writeStatus v).pending = s.pending := by
  unfold State.writeStatus
  (repeat' split) <;> simp

@[simp] theorem State.writeReg_frame (s : State) (r : Reg) (v : Word32) :
    (s.writeReg r v).pins = s.pins ∧ (s.writeReg r v).copy = s.copy ∧ (s.writeReg r v).olt = s.olt ∧
    (s.writeReg r v).ports = s.ports ∧ (s.writeReg r v).responses = s.responses ∧
    (s.writeReg r v).freeReads = s.freeReads ∧ (s.writeReg r v).pending = s.pending := by
  cases r <;> simp [State.writeReg]

@[simp] theorem State.busWrite_frame (s : State) (r : Reg) (be : Enables) (v : Word32) :
    (s.busWrite r be v).pins = s.pins ∧ (s.busWrite r be v).copy = s.copy ∧
    (s.busWrite r be v).olt = s.olt ∧ (s.busWrite r be v).ports = s.ports ∧
    (s.busWrite r be v).responses = s.responses ∧ (s.busWrite r be v).freeReads = s.freeReads ∧
    (s.busWrite r be v).pending = s.pending := by
  unfold State.busWrite
  (repeat' split) <;> simp

@[simp] theorem State.windowWrite_frame (s : State) (offset : BitVec 12) (be : Enables) (v : Word32) :
    (s.windowWrite offset be v).pins = s.pins ∧ (s.windowWrite offset be v).copy = s.copy ∧
    (s.windowWrite offset be v).olt = s.olt ∧ (s.windowWrite offset be v).ports = s.ports ∧
    (s.windowWrite offset be v).responses = s.responses ∧
    (s.windowWrite offset be v).freeReads = s.freeReads ∧ (s.windowWrite offset be v).pending = s.pending := by
  unfold State.windowWrite
  (repeat' split) <;> simp

@[simp] theorem State.commandWrite_frame (s : State) (code : Word32) :
    (s.commandWrite code).pins = s.pins ∧ (s.commandWrite code).freeReads = s.freeReads ∧
    (s.commandWrite code).pending = s.pending := by
  unfold State.commandWrite
  simp

end Sys2Proof.Machine
end

