-- ==== Sys2Proof/Laws/Memory.lean ====
section
/-!
SUPPORT. The laws of the array's memory: reading after a store, and the canonical form that every operation keeps.
-/

namespace Sys2Proof.Machine

/-- Reading a physical line after a store. -/
@[simp] theorem Memory.get_set (m : Memory) (p q : Nat) (v : StoredLine) :
    (m.set p v).get q = if q = p then some v else m.get q := by
  induction m with
  | nil => simp only [Memory.set, Memory.get]; grind
  | cons a m ih =>
    obtain ⟨k, w⟩ := a
    simp only [Memory.set]
    split
    · simp only [Memory.get]; grind
    · split
      · simp only [Memory.get]; grind
      · simp only [Memory.get, ih]; grind

/-- A store behind a smaller key keeps the canonical form. -/
theorem Memory.set_wf_cons (m : Memory) (k p : Nat) (w v : StoredLine) (hk : k < p)
    (h : Memory.wf ((k, w) :: m) = true) : Memory.wf ((k, w) :: m.set p v) = true := by
  induction m generalizing k w with
  | nil => simp [Memory.set, Memory.wf, hk]
  | cons a m ih =>
    obtain ⟨j, u⟩ := a
    simp only [Memory.wf, Bool.and_eq_true, decide_eq_true_eq] at h
    simp only [Memory.set]
    split
    · rename_i hp
      simp [Memory.wf, hk, hp, h.2]
    · split
      · rename_i hp
        subst hp
        cases m with
        | nil => simp [Memory.wf, hk]
        | cons b m => simpa [Memory.wf, hk] using h.2
      · have : j < p := by omega
        simp only [Memory.wf, Bool.and_eq_true, decide_eq_true_eq]
        exact ⟨h.1, ih j u this h.2⟩

/-- A store keeps the canonical form. -/
theorem Memory.set_wf (m : Memory) (p : Nat) (v : StoredLine) (h : m.wf = true) : (m.set p v).wf = true := by
  cases m with
  | nil => rfl
  | cons a m =>
    obtain ⟨k, w⟩ := a
    simp only [Memory.set]
    split
    · rename_i hp
      simp [Memory.wf, hp, h]
    · split
      · rename_i hp
        subst hp
        cases m with
        | nil => rfl
        | cons b m => simpa [Memory.wf] using h
      · exact Memory.set_wf_cons m k p w v (by omega) h

/-- The effect of an operation keeps the canonical form. -/
theorem Memory.apply_wf (m : Memory) (op : ArrayOp) (h : m.wf = true) : (m.apply op).wf = true := by
  unfold Memory.apply
  split
  · exact h
  · exact Memory.set_wf _ _ _ h
  · exact Memory.set_wf _ _ _ h

/-- The writes a warm reset stores keep the canonical form. -/
theorem applyAll_wf (ops : List ArrayOp) (m : Memory) (h : m.wf = true) : (applyAll ops m).wf = true := by
  induction ops generalizing m with
  | nil => exact h
  | cons op ops ih => exact ih _ (Memory.apply_wf m op h)

/-- A read changes no contents (R10). -/
@[simp] theorem Memory.apply_read (m : Memory) (op : ArrayOp) (d : Bool) (h : op.kind = .readLine d) :
    m.apply op = m := by
  simp [Memory.apply, h]

/-- An operation stores to its own physical line alone. -/
theorem Memory.get_apply_of_ne (m : Memory) (op : ArrayOp) (q : Nat) (h : q ≠ op.phys) :
    (m.apply op).get q = m.get q := by
  unfold Memory.apply
  split
  · rfl
  · simp [h]
  · simp [h]

/-- Operations that do not write a physical line leave it as it was (R16). -/
theorem applyAll_get_of_reads (ops : List ArrayOp) (m : Memory) (p : Nat)
    (h : ∀ op ∈ ops, op.phys = p → ∃ d, op.kind = .readLine d) : (applyAll ops m).get p = m.get p := by
  induction ops generalizing m with
  | nil => rfl
  | cons op ops ih =>
    rw [applyAll, ih _ (fun o ho => h o (List.mem_cons_of_mem _ ho))]
    by_cases e : p = op.phys
    · obtain ⟨d, hd⟩ := h op (List.mem_cons_self ..) e.symm
      rw [Memory.apply_read m op d hd]
    · exact Memory.get_apply_of_ne m op p e

/-- The last write of a physical line stays (R16). -/
theorem applyAll_get_last (a b : List ArrayOp) (op : ArrayOp) (m : Memory)
    (h : ∀ o ∈ b, o.phys = op.phys → ∃ d, o.kind = .readLine d) :
    (applyAll (a ++ op :: b) m).get op.phys = ((applyAll a m).apply op).get op.phys := by
  induction a generalizing m with
  | nil => exact applyAll_get_of_reads b _ _ h
  | cons x a ih => exact ih _

end Sys2Proof.Machine
end

