-- ==== Sys2Proof/Laws/Ops.lean ====
section
/-!
SUPPORT. What each shared operation does to the block it writes, said once: counters and causes, the Array
Interface, ports, records, the remap table, the spare pool, the Open-Line Table and the command slot.
-/

namespace Sys2Proof.Machine

/-! ## Counters and causes -/

/-- A counter after another is set. -/
@[simp] theorem Counters.get_set (k : Counters) (c d : Counter) (v : Word32) :
    (k.set c v).get d = if d = c then v else k.get d := by
  cases c <;> cases d <;> rfl

/-- Counting increments one counter, saturating (R197). -/
@[simp] theorem State.count_get (s : State) (c d : Counter) :
    (s.count c).counters.get d = if d = c then satInc (s.counters.get c) else s.counters.get d := by
  simp [State.count]

/-- Latching sets one cause (R136). -/
@[simp] theorem State.latch_get (s : State) (c d : Cause) :
    (s.latch c).irq.latched.get d = (decide (d = c) || s.irq.latched.get d) := by
  cases c <;> cases d <;> simp [State.latch, Latches.latch, Latches.get]

/-- Latching changes no enable (R138). -/
@[simp] theorem State.latch_enables (s : State) (c : Cause) :
    (s.latch c).irq.enable = s.irq.enable ∧ (s.latch c).irq.enableRecord = s.irq.enableRecord := ⟨rfl, rfl⟩

/-! ## The Array Interface -/

/-- Issuing appends to the issued operations (R9) and touches neither size, injection nor contents. -/
@[simp] theorem State.issueOp_aif (s : State) (op : ArrayOp) :
    (s.issueOp op).aif = { s.aif with ops := s.aif.ops ++ [op] } := rfl

/-- Issuing a read stores nothing (R10). -/
@[simp] theorem State.issueRead_mem (s : State) (l : Loc) (line : Nat) (d : Bool) (b : Issuer) :
    (s.issueRead l line d b).aif.mem = s.aif.mem := rfl

/-- Issuing a write stores nothing yet (R11). -/
@[simp] theorem State.issueWrite_mem (s : State) (l : Loc) (line : Nat) (d : LineData) (b : Issuer) :
    (s.issueWrite l line d b).aif.mem = s.aif.mem := rfl

/-- Issuing a poison write stores nothing yet (R11). -/
@[simp] theorem State.issuePoison_mem (s : State) (l : Loc) (line : Nat) (b : Issuer) :
    (s.issuePoison l line b).aif.mem = s.aif.mem := rfl

/-- No issue changes the array size (R1). -/
@[simp] theorem State.issue_size (s : State) (l : Loc) (line : Nat) (d : LineData) (dec : Bool) (b : Issuer) :
    (s.issueRead l line dec b).aif.size = s.aif.size ∧ (s.issueWrite l line d b).aif.size = s.aif.size ∧
    (s.issuePoison l line b).aif.size = s.aif.size := ⟨rfl, rfl, rfl⟩

/-- A completion applies its operation to the contents (R10, R11). -/
@[simp] theorem State.finishOp_mem (s : State) (op : ArrayOp) :
    (s.finishOp op).aif.mem = s.aif.mem.apply op := rfl

/-- A completion takes the head off its physical line's list (R9). -/
@[simp] theorem State.finishOp_ops (s : State) (op : ArrayOp) :
    (s.finishOp op).aif.ops = s.aif.ops.eraseP (fun o => o.phys == op.phys) := rfl

/-- A completion keeps the array size and the armed injection. -/
@[simp] theorem State.finishOp_rest (s : State) (op : ArrayOp) :
    (s.finishOp op).aif.size = s.aif.size ∧ (s.finishOp op).aif.injection = s.aif.injection ∧
    (s.finishOp op).freeReads = s.freeReads + 1 := ⟨rfl, rfl, rfl⟩

/-- An operation that can complete has the property, is issued, and is the head of its line's list (R12). -/
theorem State.completable_spec (s : State) (p : ArrayOp → Bool) (op : ArrayOp) (h : s.completable p = some op) :
    p op = true ∧ op ∈ s.aif.ops ∧ s.headOp op.phys = some op := by
  unfold State.completable at h
  split at h
  · simp at h
  · rename_i op' hf
    split at h
    · rename_i hh
      simp only [Option.some.injEq] at h
      subst h
      exact ⟨List.find?_some hf, List.mem_of_find?_eq_some hf, hh⟩
    · simp at h

/-- The entry and the operation of a completion row. -/
theorem State.entryOp_spec (s : State) (k : Nat) (e : OpenEntry) (op : ArrayOp) (h : s.entryOp k = some (e, op)) :
    s.entryAt k = some e ∧ op.issuer = .engine k ∧ op ∈ s.aif.ops ∧ s.headOp op.phys = some op := by
  unfold State.entryOp at h
  split at h
  · simp at h
  · rename_i e' he
    split at h
    · simp at h
    · rename_i op' ho
      simp only [Option.some.injEq, Prod.mk.injEq] at h
      obtain ⟨rfl, rfl⟩ := h
      have := State.completable_spec s _ _ ho
      exact ⟨he, by simpa using this.1, this.2.1, this.2.2⟩

/-! ## Ports -/

/-- A port after another is replaced. -/
@[simp] theorem Ports.get_set (ps : Ports) (p q : PortId) (v : Port) :
    (ps.set p v).get q = if q = p then v else ps.get q := by
  cases p <;> cases q <;> rfl

/-- Presenting appends to the responses of the step (R157). -/
@[simp] theorem State.present_responses (s : State) (r : Response) :
    (s.present r).responses = s.responses ++ [r] := rfl

/-- Releasing a tag removes it from its port's set alone (R156). -/
@[simp] theorem State.releaseTag_ports (s : State) (p q : PortId) (t : Tag) :
    ((s.releaseTag p t).ports.get q).queue = (s.ports.get q).queue ∧
    ((s.releaseTag p t).ports.get q).tags =
      if q = p then (s.ports.get q).tags.filter (fun u => u ≠ t) else (s.ports.get q).tags := by
  unfold State.releaseTag
  by_cases h : q = p <;> simp [h]

/-- An answer presents its response and releases its tag (R156, R157). -/
@[simp] theorem State.answer_spec (s : State) (r : Response) (q : PortId) :
    (s.answer r).responses = s.responses ++ [r] ∧
    ((s.answer r).ports.get q).queue = (s.ports.get q).queue ∧
    ((s.answer r).ports.get q).tags =
      if q = r.port then (s.ports.get q).tags.filter (fun u => u ≠ r.tag) else (s.ports.get q).tags := by
  simp [State.answer]

/-! ## Records (R124 to R130) -/

/-- The newest minor record is the last one, and everything behind it is major (R129). -/
theorem dropNewestMinor_some (rs rs' : List Record) (h : dropNewestMinor rs = some rs') :
    ∃ a r b, rs = a ++ r :: b ∧ r.kind.minor = true ∧ (∀ x ∈ b, x.kind.minor = false) ∧ rs' = a ++ b := by
  induction rs generalizing rs' with
  | nil => simp [dropNewestMinor] at h
  | cons x xs ih =>
    simp only [dropNewestMinor] at h
    split at h
    · rename_i ys hy
      obtain ⟨a, r, b, h1, h2, h3, h4⟩ := ih _ hy
      simp only [Option.some.injEq] at h
      exact ⟨x :: a, r, b, by simp [h1], h2, h3, by simp [← h, h4]⟩
    · rename_i hn
      split at h
      · rename_i hm
        simp only [Option.some.injEq] at h
        refine ⟨[], x, xs, rfl, hm, ?_, by simp [h]⟩
        clear ih h hm
        induction xs with
        | nil => simp
        | cons y ys ihy =>
          simp only [dropNewestMinor] at hn
          split at hn
          · simp at hn
          · rename_i hn'
            split at hn
            · simp at hn
            · rename_i hy
              intro z hz
              rcases List.mem_cons.mp hz with rfl | hz
              · simpa using hy
              · exact ihy hn' z hz
      · simp at h

/-- Without a minor record nothing is displaced (R129). -/
theorem dropNewestMinor_none (rs : List Record) (h : dropNewestMinor rs = none) :
    ∀ x ∈ rs, x.kind.minor = false := by
  induction rs with
  | nil => simp
  | cons y ys ih =>
    simp only [dropNewestMinor] at h
    split at h
    · simp at h
    · rename_i hn
      split at h
      · simp at h
      · rename_i hy
        intro z hz
        rcases List.mem_cons.mp hz with rfl | hz
        · simpa using hy
        · exact ih hn z hz

/-- An appended record stands at the tail with the next sequence number (R125). -/
@[simp] theorem State.appendRecord_erq (s : State) (rs : List Record) (r : Record) :
    (s.appendRecord rs r).erq =
      { records := rs ++ [{ r with seq := s.erq.nextSeq }], nextSeq := s.erq.nextSeq + 1 } := by
  unfold State.appendRecord
  by_cases h : r.kind.minor = true <;> simp [h]

/-- An offer that folds grows the tail and changes nothing else (R126). -/
theorem State.offer_folds (s : State) (r : Record) (h : s.erq.folds r = true) :
    s.offer r = s.setErq (s.erq.fold r) := by
  simp [State.offer, h]

/-- An offer that does not fold is appended while the queue has room (R127). -/
theorem State.offer_room (s : State) (r : Record) (h : s.erq.folds r = false) (n : s.erq.records.length < 32) :
    s.offer r = s.appendRecord s.erq.records r := by
  simp [State.offer, h, n]

/-- A minor record offered to a full queue is dropped, counted and latched (R128, R130). -/
theorem State.offer_minor_full (s : State) (r : Record) (h : s.erq.folds r = false)
    (n : ¬ s.erq.records.length < 32) (m : r.kind.minor = true) :
    s.offer r = (s.count .lostMinor).latch .lost := by
  simp [State.offer, h, n, m]

/-- A major record offered to a full queue displaces the newest minor record (R129, R130). -/
theorem State.offer_major_displaces (s : State) (r : Record) (rs : List Record) (h : s.erq.folds r = false)
    (n : ¬ s.erq.records.length < 32) (m : r.kind.minor = false) (d : dropNewestMinor s.erq.records = some rs) :
    s.offer r = ((s.count .lostMinor).latch .lost).appendRecord rs r := by
  simp [State.offer, h, n, m, d]

/-- A major record offered to a queue full of major records is dropped (R129, R130). -/
theorem State.offer_major_full (s : State) (r : Record) (h : s.erq.folds r = false)
    (n : ¬ s.erq.records.length < 32) (m : r.kind.minor = false) (d : dropNewestMinor s.erq.records = none) :
    s.offer r = (s.count .lostMajor).latch .lost := by
  simp [State.offer, h, n, m, d]

/-- The queue never holds more than 32 records (R125). -/
theorem State.offer_length (s : State) (r : Record) (h : s.erq.records.length ≤ 32) :
    (s.offer r).erq.records.length ≤ 32 := by
  unfold State.offer
  split
  · simp only [State.setErq_erq, RecordQueue.fold]
    split
    · rename_i tail ht
      have : s.erq.records ≠ [] := by intro e; simp [e] at ht
      have := List.length_pos_of_ne_nil this
      simp [replaceTail]; omega
    · exact h
  · split
    · simp; omega
    · split
      · simpa using h
      · split
        · rename_i rs hd
          obtain ⟨a, x, b, h1, -, -, h4⟩ := dropNewestMinor_some _ _ hd
          simp only [State.appendRecord_erq]
          rw [h1] at h
          simp [h4] at h ⊢
          omega
        · simpa using h

/-! ## The remap table (R17 to R23) -/

/-- A found entry stands in the table and is of the line. -/
theorem findEntry_some (es : List (Option RemapEntry)) (line : Nat) (e : RemapEntry)
    (h : findEntry es line = some e) : some e ∈ es ∧ e.line = line := by
  induction es with
  | nil => simp [findEntry] at h
  | cons x xs ih =>
    cases x with
    | none =>
      simp only [findEntry] at h
      exact ⟨List.mem_cons_of_mem _ (ih h).1, (ih h).2⟩
    | some x =>
      simp only [findEntry] at h
      split at h
      · rename_i hx
        simp only [Option.some.injEq] at h
        subst h
        exact ⟨by simp, hx⟩
      · exact ⟨List.mem_cons_of_mem _ (ih h).1, (ih h).2⟩

/-- A line without a found entry has none in the table. -/
theorem findEntry_none (es : List (Option RemapEntry)) (line : Nat) (h : findEntry es line = none) :
    ∀ e, some e ∈ es → e.line ≠ line := by
  induction es with
  | nil => simp
  | cons x xs ih =>
    intro e he
    cases x with
    | none =>
      simp only [findEntry] at h
      rcases List.mem_cons.mp he with h' | h'
      · simp at h'
      · exact ih h e h'
    | some x =>
      simp only [findEntry] at h
      split at h
      · simp at h
      · rename_i hx
        rcases List.mem_cons.mp he with h' | h'
        · simp only [Option.some.injEq] at h'
          subst h'
          exact hx
        · exact ih h e h'

/-- Placing an entry keeps the number of slots (R18). -/
@[simp] theorem fillLowest_length (es : List (Option RemapEntry)) (e : RemapEntry) :
    (fillLowest es e).length = es.length := by
  induction es with
  | nil => rfl
  | cons x xs ih => cases x <;> simp [fillLowest, ih]

/-- Replacing an entry keeps the number of slots (R18). -/
@[simp] theorem replaceEntry_length (es : List (Option RemapEntry)) (line : Nat) (e : Option RemapEntry) :
    (replaceEntry es line e).length = es.length := by
  induction es with
  | nil => rfl
  | cons x xs ih =>
    cases x with
    | none => simp [replaceEntry, ih]
    | some x =>
      simp only [replaceEntry]
      split <;> simp [ih]

/-- Creating an entry counts in LRT_GEN (R23). -/
@[simp] theorem State.addEntry_lrt (s : State) (e : RemapEntry) :
    (s.addEntry e).lrt = { slots := fillLowest s.lrt.slots e, gen := s.lrt.gen + 1 } := rfl

/-- Changing an entry counts in LRT_GEN (R23). -/
@[simp] theorem State.putEntry_lrt (s : State) (line : Nat) (e : Option RemapEntry) :
    (s.putEntry line e).lrt = { slots := replaceEntry s.lrt.slots line e, gen := s.lrt.gen + 1 } := rfl

/-! ## The spare pool (R25 to R28) -/

/-- A changed spare, and no other. -/
@[simp] theorem State.setSpare_pool (s : State) (n : Nat) (x : SpareState) :
    (s.setSpare n x).pool = { s.pool with spares := s.pool.spares.set n x } := rfl

/-- Taking a spare changes its state alone in the pool. -/
@[simp] theorem State.takeSpare_pool (s : State) (n : Nat) (x : SpareState) :
    (s.takeSpare n x).pool = { s.pool with spares := s.pool.spares.set n x } := by
  simp [State.takeSpare]

/-- The crossing test latches SPARES_LOW or changes nothing (R28). -/
theorem State.noteCrossing_eq (s : State) (before : Nat) :
    s.noteCrossing before =
      if s.pool.lowLevel < before ∧ s.pool.count .free ≤ s.pool.lowLevel then s.latch .sparesLow else s := rfl

/-- The spare that allocation takes is FREE, and every lower one is not (R26). -/
theorem SparePool.lowestFree_some (p : SparePool) (n : Nat) (h : p.lowestFree = some n) :
    p.spares[n]? = some .free ∧ ∀ m < n, p.spares[m]? ≠ some .free := by
  unfold SparePool.lowestFree at h
  rw [List.findIdx?_eq_some_iff_getElem] at h
  obtain ⟨hn, h1, h2⟩ := h
  refine ⟨by simpa [List.getElem?_eq_getElem hn] using h1, ?_⟩
  intro m hm
  have := h2 m hm
  have hm' : m < p.spares.length := by omega
  simpa [List.getElem?_eq_getElem hm'] using this

/-! ## The Open-Line Table (R64 to R67) -/

/-- An occupied slot is one of the table's. -/
theorem State.entryAt_lt (s : State) (k : Nat) (e : OpenEntry) (h : s.entryAt k = some e) :
    k < s.olt.slots.length := by
  by_contra hn
  have : s.olt.slots.length ≤ k := by omega
  simp [State.entryAt, List.getD_eq_getElem?_getD, List.getElem?_eq_none this] at h

/-- The table after an entry is put in an occupied slot. -/
theorem State.entryAt_putOpen (s : State) (k j : Nat) (e : OpenEntry) (h : k < s.olt.slots.length) :
    (s.putOpen k e).entryAt j = if j = k then some e else s.entryAt j := by
  by_cases hj : j = k
  · subst hj; simp [State.entryAt, State.putOpen, h]
  · have : k ≠ j := fun e => hj e.symm
    simp [State.entryAt, State.putOpen, hj, this, List.getElem?_set_ne]

/-- Putting an entry changes neither the order nor the number of slots. -/
@[simp] theorem State.putOpen_shape (s : State) (k : Nat) (e : OpenEntry) :
    (s.putOpen k e).olt.order = s.olt.order ∧ (s.putOpen k e).olt.slots.length = s.olt.slots.length := by
  simp [State.putOpen]

/-- The table after a removal: the slot is empty, and an entry that waited on it waits on what R67 gives. -/
theorem State.entryAt_removeEntry (s : State) (k j : Nat) (e : OpenEntry) (h : s.entryAt k = some e) :
    (s.removeEntry k).entryAt j =
      if j = k then none else retarget k e.handOver (s.entryAt j) := by
  have hk := s.entryAt_lt k e h
  unfold State.removeEntry
  rw [h]
  by_cases hj : j = k
  · subst hj; simp [State.entryAt, hk, retarget]
  · have hkj : k ≠ j := fun e => hj e.symm
    simp only [State.entryAt, State.setOlt_olt, List.getD_eq_getElem?_getD, List.getElem?_map,
      List.getElem?_set_ne hkj, hj, if_false]
    cases hs : s.olt.slots[j]? <;> simp [retarget]

/-- A removal keeps the number of slots and takes the slot out of the grant order. -/
theorem State.removeEntry_shape (s : State) (k : Nat) :
    (s.removeEntry k).olt.slots.length = s.olt.slots.length ∧
    ((s.entryAt k).isSome = true → (s.removeEntry k).olt.order = s.olt.order.filter (fun j => j ≠ k)) := by
  unfold State.removeEntry
  split
  · rename_i h; simp [h]
  · simp

/-- The slot a grant takes is the lowest empty one (R64). -/
theorem State.emptySlot_some (s : State) (k : Nat) (h : s.emptySlot = some k) :
    k < s.olt.slots.length ∧ s.entryAt k = none ∧ ∀ j < k, (s.entryAt j).isSome = true := by
  unfold State.emptySlot at h
  rw [List.findIdx?_eq_some_iff_getElem] at h
  obtain ⟨hk, h1, h2⟩ := h
  refine ⟨hk, ?_, ?_⟩
  · simpa [State.entryAt, List.getElem?_eq_getElem hk] using h1
  · intro j hj
    have hj' : j < s.olt.slots.length := by omega
    have := h2 j hj
    simp only [Option.isNone_iff_eq_none] at this
    simpa [State.entryAt, List.getElem?_eq_getElem hj', Option.isSome_iff_ne_none] using this

/-- The table after a grant (R66). -/
theorem State.createEntry_some (s : State) (work : Work) (line : Nat) (cls : CheckClass) (k : Nat)
    (h : s.emptySlot = some k) :
    (s.createEntry work line cls).olt =
      { slots := s.olt.slots.set k (some
          { work := work, line := line, cls := cls, place := none, result := none,
            state := .blocked (match s.newestOf line with | some m => .entry m | none => .turn) })
        order := s.olt.order ++ [k] } := by
  cases hn : s.newestOf line <;> simp [State.createEntry, h, hn]

/-! ## The command slot (R192) -/

/-- A completion sets the result and clears busy; the other fields of the slot stay (R192). -/
@[simp] theorem State.completeCommand_cmd (s : State) (r : CmdResult) :
    (s.completeCommand r).cmd = { s.cmd with running := none, result := r } := rfl

/-- A completion latches CMD_DONE and no other cause (R192). -/
@[simp] theorem State.completeCommand_latched (s : State) (r : CmdResult) (c : Cause) :
    (s.completeCommand r).irq.latched.get c = (decide (c = .cmdDone) || s.irq.latched.get c) := by
  unfold State.completeCommand
  rw [State.latch_get]; rfl

/-! ## What is due -/

/-- On a settled state nothing is performed. -/
theorem State.settle_of_settled (s : State) (h : s.settled = true) : s.settle = s := by
  simp only [State.settled, Bool.and_eq_true, Bool.not_eq_true', Option.isNone_iff_eq_none] at h
  obtain ⟨⟨⟨⟨h1, h2⟩, h3⟩, h4⟩, h5⟩ := h
  have i : ∀ n, issueDue n s = s := by intro n; cases n <;> simp [issueDue, h1]
  have j : ∀ n, startDueItems n s = s := by intro n; cases n <;> simp [startDueItems, h2]
  simp [State.settle, State.settleIssues, i, State.settleStarts, j, State.settleEnds, h3, h4, h5]

/-- A settled state is opened by clearing the responses of the step before. -/
theorem State.opened_of_settled (s : State) (h : s.newStep.settled = true) : s.opened = s.newStep := by
  unfold State.opened
  exact State.settle_of_settled _ h

end Sys2Proof.Machine
end

