-- ==== Sys2Proof/Laws/Halt.lean ====
section
/-!
SUPPORT. What entry to HALTED does to the Open-Line Table and to the command in progress (R180, R54, R102, R118,
R181), each in one lemma, with the lemmas of their parts.
-/

namespace Sys2Proof.Machine

/-- An entry waits on something else, or is as it was; at the array it is as it was. -/
def OpenEntry.follows (e f : OpenEntry) : Prop := (∃ st, f = { e with state := st }) ∧ (e.atArray = true → f = e)

/-- Every entry follows itself. -/
theorem OpenEntry.follows_self (e : OpenEntry) : e.follows e := ⟨⟨e.state, rfl⟩, fun _ => rfl⟩

/-- Following twice is following. -/
theorem OpenEntry.follows_trans (e f g : OpenEntry) (h : e.follows f) (k : f.follows g) : e.follows g := by
  obtain ⟨⟨a, rfl⟩, h2⟩ := h
  obtain ⟨⟨b, rfl⟩, k2⟩ := k
  refine ⟨⟨b, rfl⟩, fun x => ?_⟩
  have y := h2 x
  rw [y] at k2
  exact (k2 x).trans rfl

/-- A blocked entry made to wait on something else follows. -/
theorem OpenEntry.follows_blocked (e : OpenEntry) (w w' : WaitsOn) (h : e.state = .blocked w) :
    e.follows { e with state := .blocked w' } :=
  ⟨⟨_, rfl⟩, fun x => by simp [OpenEntry.atArray, h] at x⟩

/-- An entry that waited on a slot that was left follows. -/
theorem retarget_follows (k : Nat) (w : WaitsOn) (e : OpenEntry) :
    ∃ f, retarget k w (some e) = some f ∧ e.follows f := by
  refine ⟨_, rfl, ?_⟩
  split
  · rename_i h
    exact e.follows_blocked _ _ h
  · exact e.follows_self

/-- An entry freed from the hold follows. -/
theorem releaseHold_follows (e : OpenEntry) : ∃ f, releaseHold (some e) = some f ∧ e.follows f := by
  refine ⟨_, rfl, ?_⟩
  split
  · rename_i h
    exact e.follows_blocked _ _ h
  · exact e.follows_self

/-- Removing one entry empties its slot; every other entry follows. -/
theorem State.removeEntry_follows (s : State) (k j : Nat) :
    (j = k → (s.removeEntry k).entryAt j = none) ∧
    (s.entryAt j = none → (s.removeEntry k).entryAt j = none) ∧
    ∀ e, j ≠ k → s.entryAt j = some e → ∃ f, (s.removeEntry k).entryAt j = some f ∧ e.follows f := by
  cases h : s.entryAt k with
  | none =>
    have : s.removeEntry k = s := by simp [State.removeEntry, h]
    rw [this]
    exact ⟨fun e => e ▸ h, id, fun e _ he => ⟨e, he, e.follows_self⟩⟩
  | some x =>
    simp only [s.entryAt_removeEntry k j x h]
    refine ⟨fun e => by simp [e], fun e => by simp [e, retarget], fun e hj he => ?_⟩
    simp only [hj, if_false, he]
    exact retarget_follows _ _ _

/-- Removing the entries of a list of slots empties these slots; every other entry follows (R180). -/
theorem removeEntries_follows (ks : List Nat) (s : State) (j : Nat) :
    (j ∈ ks → (removeEntries ks s).entryAt j = none) ∧
    (s.entryAt j = none → (removeEntries ks s).entryAt j = none) ∧
    ∀ e, j ∉ ks → s.entryAt j = some e → ∃ f, (removeEntries ks s).entryAt j = some f ∧ e.follows f := by
  induction ks generalizing s with
  | nil => exact ⟨by simp, id, fun e _ he => ⟨e, he, e.follows_self⟩⟩
  | cons k ks ih =>
    obtain ⟨a, b, c⟩ := ih (s.removeEntry k)
    obtain ⟨a', b', c'⟩ := s.removeEntry_follows k j
    refine ⟨fun h => ?_, fun h => b (b' h), fun e h he => ?_⟩
    · rcases List.mem_cons.mp h with e | e
      · exact b (a' e)
      · exact a e
    · obtain ⟨x, y⟩ := (by simpa using h : j ≠ k ∧ j ∉ ks)
      obtain ⟨f, hf, r⟩ := c' e x he
      obtain ⟨g, hg, q⟩ := c f y hf
      exact ⟨g, hg, e.follows_trans f g r q⟩

/-- Removing occupied slots takes them out of the grant order. -/
theorem removeEntries_order (ks : List Nat) (s : State) (n : ks.Nodup) (h : ∀ k ∈ ks, (s.entryAt k).isSome = true) :
    (removeEntries ks s).olt.order = s.olt.order.filter (fun k => k ∉ ks) := by
  induction ks generalizing s with
  | nil => simp [removeEntries]
  | cons k ks ih =>
    obtain ⟨n1, n2⟩ := List.nodup_cons.mp n
    rw [removeEntries, ih _ n2, (s.removeEntry_shape k).2 (h k (by simp)), List.filter_filter]
    · congr 1
      funext x
      by_cases e : x = k <;> simp [e]
    · intro j hj
      obtain ⟨e, he⟩ := Option.isSome_iff_exists.mp (h j (by simp [hj]))
      obtain ⟨f, hf, _⟩ := (s.removeEntry_follows k j).2.2 e (fun q => n1 (q ▸ hj)) he
      simp [hf]

/-- The entries that a halt removes are those not at the array that are no PATROL entries (R180). -/
theorem OpenEntry.haltRemoves_eq (e : OpenEntry) : e.haltRemoves = (!e.atArray && decide (e.work ≠ .patrol)) := by
  unfold OpenEntry.haltRemoves OpenEntry.atArray
  cases e.state <;> cases e.work <;> simp

/-- The table after a halt (R180): what it removes is gone and out of the grant order, and every other entry follows. -/
theorem State.haltTable_spec (s : State) (n : s.olt.order.Nodup)
    (h : ∀ k ∈ s.olt.order, (s.entryAt k).isSome = true) (m : ∀ k e, s.entryAt k = some e → k ∈ s.olt.order) :
    (∀ k, s.entryAt k = none → s.haltTable.entryAt k = none) ∧
    (∀ k e, s.entryAt k = some e → e.haltRemoves = true → s.haltTable.entryAt k = none) ∧
    (∀ k e, s.entryAt k = some e → e.haltRemoves = false → ∃ f, s.haltTable.entryAt k = some f ∧ e.follows f) ∧
    s.haltTable.olt.order = s.olt.order.filter (fun k => (s.haltTable.entryAt k).isSome) := by
  have mem : ∀ k e, s.entryAt k = some e →
      (k ∈ s.olt.order.filter s.haltRemovesSlot ↔ e.haltRemoves = true) := by
    intro k e he
    simp [m k e he, State.haltRemovesSlot, he]
  have gone : ∀ k e, s.entryAt k = some e → e.haltRemoves = true → s.haltTable.entryAt k = none := fun k e he r =>
    (removeEntries_follows _ s k).1 ((mem k e he).2 r)
  have stays : ∀ k e, s.entryAt k = some e → e.haltRemoves = false →
      ∃ f, s.haltTable.entryAt k = some f ∧ e.follows f := fun k e he r =>
    (removeEntries_follows _ s k).2.2 e (fun q => by simp [(mem k e he).1 q] at r) he
  refine ⟨fun k => (removeEntries_follows _ s k).2.1, gone, stays, ?_⟩
  rw [State.haltTable, removeEntries_order _ s (n.filter _) (fun k q => h k (List.mem_filter.mp q).1)]
  apply List.filter_congr
  intro k hk
  obtain ⟨e, he⟩ := Option.isSome_iff_exists.mp (h k hk)
  cases r : e.haltRemoves
  · obtain ⟨f, hf, _⟩ := stays k e he r
    rw [State.haltTable] at hf
    have : k ∉ s.olt.order.filter s.haltRemovesSlot := fun q => by simp [(mem k e he).1 q] at r
    rw [hf, decide_eq_true this]
    rfl
  · have g := gone k e he r
    rw [State.haltTable] at g
    rw [g]
    simp [m k e he, State.haltRemovesSlot, he, r]

/-- What an offer makes of the queue, the counters and the causes rests on these alone. -/
theorem State.offer_congr (u v : State) (r : Record) (h1 : u.erq = v.erq) (h2 : u.counters = v.counters)
    (h3 : u.irq = v.irq) :
    (u.offer r).erq = (v.offer r).erq ∧ (u.offer r).counters = (v.offer r).counters ∧
    (u.offer r).irq = (v.offer r).irq := by
  have hl : ∀ c, (u.latch c).irq = (v.latch c).irq := by intro c; simp [State.latch, h3]
  unfold State.offer
  rw [h1]
  split
  · simp [h2, h3]
  · split
    · unfold State.appendRecord; simp only []; split <;> simp [State.latch, h1, h2, h3]
    · split
      · simp [State.latch, State.count, h1, h2, h3]
      · split
        · unfold State.appendRecord; simp only []; split <;> simp [State.latch, State.count, h1, h2, h3]
        · simp [State.latch, State.count, h1, h2, h3]

/-- A change that ends the command in progress with ABORTED exactly when `P` holds (R192). -/
def EndsWhen (s t : State) (P : Prop) : Prop :=
  (P → t.cmd = { s.cmd with running := none, result := .aborted } ∧ t.irq = s.irq.with .cmdDone) ∧
  (¬ P → t.cmd = s.cmd ∧ t.irq = s.irq)

/-- Latching CMD_DONE twice is latching it once. -/
theorem Interrupts.with_cmdDone_twice (q : Interrupts) : (q.with .cmdDone).with .cmdDone = q.with .cmdDone := by
  cases q
  rename_i l _ _
  cases l
  rfl

/-- Of two such changes one after another at least one ends the command, or neither does. -/
theorem EndsWhen.trans {s t v : State} {P Q : Prop} (h : EndsWhen s t P) (k : EndsWhen t v Q) :
    EndsWhen s v (P ∨ Q) := by
  obtain ⟨a, b⟩ := h; obtain ⟨c, d⟩ := k
  by_cases p : P <;> by_cases q : Q
  · refine ⟨fun _ => ⟨?_, ?_⟩, fun x => absurd (Or.inl p) x⟩
    · rw [(c q).1, (a p).1]
    · rw [(c q).2, (a p).2, Interrupts.with_cmdDone_twice]
  · refine ⟨fun _ => ⟨(d q).1.trans (a p).1, (d q).2.trans (a p).2⟩, fun x => absurd (Or.inl p) x⟩
  · refine ⟨fun _ => ⟨?_, ?_⟩, fun x => absurd (Or.inr q) x⟩
    · rw [(c q).1, (b p).1]
    · rw [(c q).2, (b p).2]
  · refine ⟨fun x => by tauto, fun _ => ⟨(d q).1.trans (b p).1, (d q).2.trans (b p).2⟩⟩

/-- A command that ends. -/
theorem EndsWhen.done (s : State) (P : Prop) (h : P) : EndsWhen s (s.completeCommand .aborted) P :=
  ⟨fun _ => ⟨rfl, rfl⟩, fun x => absurd h x⟩

/-- A change of the command slot and the causes alone by the end of a command. -/
theorem EndsWhen.of_done (s t : State) (P : Prop) (h : P) (a : t.cmd = (s.completeCommand .aborted).cmd)
    (b : t.irq = (s.completeCommand .aborted).irq) : EndsWhen s t P :=
  ⟨fun _ => ⟨a, b⟩, fun x => absurd h x⟩

/-- The abort of the current item ends the command whose item it is (R54). -/
theorem State.copyHalt_ends (s : State) : EndsWhen s s.copyHalt (∃ i, s.copy.item = some i ∧ i.command = true) := by
  unfold State.copyHalt
  cases h : s.copy.item with
  | none => exact ⟨fun ⟨i, hi, _⟩ => by simp at hi, fun _ => ⟨rfl, rfl⟩⟩
  | some i =>
    simp only [State.endItem, State.completeItem]
    cases c : i.command
    · refine ⟨fun ⟨j, hj, e⟩ => by cases hj; simp [c] at e, fun _ => by simp⟩
    · refine EndsWhen.of_done _ _ _ ⟨i, rfl, c⟩ ?_ ?_ <;> simp [State.completeCommand, State.latch]

/-- The end of a targeted scrub ends its command (R118). -/
theorem State.patrolHalt_ends (s : State) : EndsWhen s s.patrolHalt (∃ r, s.patrol.scrub = some r) := by
  cases h : s.patrol.scrub with
  | none =>
    have : s.patrolHalt = s.patrolLeaveRunning := by simp [State.patrolHalt, h]
    rw [this]
    exact ⟨fun ⟨i, hi⟩ => by simp at hi, fun _ => by unfold State.patrolLeaveRunning State.clearWait; split <;> simp⟩
  | some r =>
    refine EndsWhen.of_done _ _ _ ⟨r, rfl⟩ ?_ ?_ <;> simp only [State.patrolHalt, h] <;> split <;> rfl

/-- The removal of queued command items ends their command (R102). -/
theorem State.haltRtq_ends (s : State) : EndsWhen s s.haltRtq (∃ i ∈ s.rtq, i.command = true) := by
  unfold State.haltRtq
  split
  · rename_i h
    refine EndsWhen.of_done _ _ _ (by simpa using h) ?_ ?_ <;> simp [State.completeCommand, State.latch]
  · rename_i h
    exact ⟨fun x => absurd (by simpa using x) h, fun _ => ⟨rfl, rfl⟩⟩

/-- A STOP in progress ends (R181). -/
theorem State.haltStop_ends (s : State) :
    EndsWhen s s.haltStop (∃ r, s.cmd.running = some r ∧ r.command = .stop) := by
  unfold State.haltStop State.runningIs
  cases h : s.cmd.running with
  | none => exact ⟨fun ⟨i, hi, _⟩ => by simp at hi, fun _ => by simp⟩
  | some r =>
    by_cases e : r.command = .stop
    · simp only [e, decide_true, if_true]; exact EndsWhen.done _ _ ⟨r, rfl, e⟩
    · simp only [e, decide_false]; refine ⟨fun ⟨i, hi, x⟩ => by cases hi; exact absurd x e, fun _ => by simp⟩

/-- Entry to HALTED ends the command in progress exactly when it ends the work of one (R54, R102, R118, R181). -/
theorem State.halt_ends (s : State) : EndsWhen s s.haltPorts.haltTable.copyHalt.patrolHalt.haltRtq.haltStop
    ((∃ i, s.copy.item = some i ∧ i.command = true) ∨ (∃ r, s.patrol.scrub = some r) ∨
      (∃ i ∈ s.rtq, i.command = true) ∨ ∃ r, s.cmd.running = some r ∧ r.command = .stop) := by
  have k1 := State.copyHalt_ends s.haltPorts.haltTable
  have k2 := State.patrolHalt_ends s.haltPorts.haltTable.copyHalt
  have k3 := State.haltRtq_ends s.haltPorts.haltTable.copyHalt.patrolHalt
  have k4 := State.haltStop_ends s.haltPorts.haltTable.copyHalt.patrolHalt.haltRtq
  have a1 : s.haltPorts.haltTable.copy = s.copy := by simp
  have a2 : s.haltPorts.haltTable.copyHalt.patrol = s.patrol := by simp
  have a3 : s.haltPorts.haltTable.copyHalt.patrolHalt.rtq = s.rtq := by simp
  rw [a1] at k1; rw [a2] at k2; rw [a3] at k3
  have b : EndsWhen s s.haltPorts.haltTable False := ⟨fun x => x.elim, fun _ => by simp⟩
  have k5 := ((b.trans k1).trans k2).trans k3
  have k6 := k5.trans k4
  clear k1 k2 k3 k4 a1 a2 a3 b
  revert k5 k6
  generalize s.haltPorts.haltTable.copyHalt.patrolHalt.haltRtq = m
  generalize (∃ i, s.copy.item = some i ∧ i.command = true) = A
  generalize (∃ r, s.patrol.scrub = some r) = B
  generalize (∃ i ∈ s.rtq, i.command = true) = C
  intro k5 k6
  by_cases q : ((False ∨ A) ∨ B) ∨ C
  · refine ⟨fun _ => k6.1 (Or.inl q), fun x => absurd ?_ x⟩
    rcases q with ((q | q) | q) | q
    · exact q.elim
    · exact Or.inl q
    · exact Or.inr (Or.inl q)
    · exact Or.inr (Or.inr (Or.inl q))
  · have e : m.cmd = s.cmd := (k5.2 q).1
    rw [e] at k6
    generalize (∃ r, s.cmd.running = some r ∧ r.command = .stop) = D at k6
    refine ⟨fun x => k6.1 ?_, fun x => k6.2 ?_⟩
    · rcases x with x | x | x | x
      · exact Or.inl (Or.inl (Or.inl (Or.inr x)))
      · exact Or.inl (Or.inl (Or.inr x))
      · exact Or.inl (Or.inr x)
      · exact Or.inr x
    · intro y; exact x (by rcases y with y | y; exact absurd y q; exact Or.inr (Or.inr (Or.inr y)))

end Sys2Proof.Machine
end

