-- ==== Sys2Proof/Laws/Lines.lean ====
section
/-!
SUPPORT. The laws of lines: bytes of a merge, words of a line, bits of a word mask, and the decoding of words by
their stored bits in error.
-/

namespace Sys2Proof.Machine

/-- Bit i of the expansion of a mask: the mask's bit of the byte it lies in. -/
theorem expandMask_getLsbD (mask : ByteMask) (n i : Nat) (hi : i < 512) :
    (expandMask mask n).getLsbD i = (decide (i / 8 < n) && mask.getLsbD (i / 8)) := by
  induction n with
  | zero => simp [expandMask]
  | succ n ih =>
    have h255 : ∀ j : Nat, j < 512 → (255#512).getLsbD j = decide (j < 8) := by
      intro j hj
      have e : (255 : Nat) = 2 ^ 8 - 1 := by norm_num
      rw [e, BitVec.getLsbD_ofNat, Nat.testBit_two_pow_sub_one]
      simp [hj]
    have step : ((if mask.getLsbD n then (255#512) <<< (8 * n) else 0#512)).getLsbD i =
        (decide (i / 8 = n) && mask.getLsbD n) := by
      by_cases hm : mask.getLsbD n
      · simp only [hm, if_true, BitVec.getLsbD_shiftLeft, h255 (i - 8 * n) (by omega), hi, decide_true,
          Bool.true_and, Bool.and_true]
        by_cases e : i / 8 = n
        · have : ¬ i < 8 * n := by omega
          have : i - 8 * n < 8 := by omega
          simp [*]
        · by_cases l : i < 8 * n
          · simp [l, e]
          · have : ¬ i - 8 * n < 8 := by omega
            simp [*]
      · simp [hm]
    simp only [expandMask, BitVec.getLsbD_or, ih, step]
    by_cases e : i / 8 = n
    · simp [e]
    · have : (i / 8 < n + 1) ↔ (i / 8 < n) := by omega
      simp [e, this]

/-- Each byte of a merge comes from the new line where the mask names it, else from the old (R4, R58, R76). -/
theorem lineByte_mergeBytes (mask : ByteMask) (new old : LineData) (b : Nat) (hb : b < 64) :
    lineByte (mergeBytes mask new old) b = if mask.getLsbD b then lineByte new b else lineByte old b := by
  apply BitVec.eq_of_getLsbD_eq
  intro i hi
  have h1 : 8 * b + i < 512 := by omega
  have h2 : (8 * b + i) / 8 = b := by omega
  simp only [lineByte, mergeBytes, BitVec.getLsbD_extractLsb', BitVec.getLsbD_or, BitVec.getLsbD_and,
    BitVec.getLsbD_not, hi, h1, expandMask_getLsbD _ _ _ h1, h2, hb, decide_true, Bool.true_and]
  by_cases hm : mask.getLsbD b <;> simp [hm, hi]

/-- Word w of a line made of eight words. -/
theorem lineWord_lineOfWords (f : Nat → Word64) (w : Nat) (hw : w < 8) : lineWord (lineOfWords f) w = f w := by
  apply BitVec.eq_of_getLsbD_eq
  intro i hi
  simp only [lineWord, lineOfWords, BitVec.getLsbD_extractLsb', BitVec.getLsbD_append, hi, decide_true,
    Bool.true_and]
  interval_cases w <;> grind

/-- Bit w of the mask of a set of words. -/
theorem wordMaskOf_getLsbD (f : Nat → Bool) (w : Nat) (hw : w < 8) : (wordMaskOf f).getLsbD w = f w := by
  simp only [wordMaskOf, BitVec.getLsbD_append]
  interval_cases w <;> simp

/-- A word of data with no stored bit in error is CLEAN and reads as it was written (R6). -/
theorem StoredLine.decodeWord_clean (l : StoredLine) (d : LineData) (w : Nat) (h : l.written = .data d)
    (e : errWeight (errWord l.errs w) = 0) : l.decodeWord w = (.clean, lineWord d w) := by
  simp [StoredLine.decodeWord, h, e]

/-- A word of data with one stored bit in error is SINGLE and reads as it was written (R6). -/
theorem StoredLine.decodeWord_single (l : StoredLine) (d : LineData) (w : Nat) (h : l.written = .data d)
    (e : errWeight (errWord l.errs w) = 1) : l.decodeWord w = (.single, lineWord d w) := by
  simp [StoredLine.decodeWord, h, e]

/-- A word of data with two stored bits in error is MULTI (R6). -/
theorem StoredLine.decodeWord_multi (l : StoredLine) (d : LineData) (w : Nat) (h : l.written = .data d)
    (e : errWeight (errWord l.errs w) = 2) : l.decodeWord w = (.multi, l.rawWord w) := by
  simp [StoredLine.decodeWord, h, e]

/-- A word of poison with no stored bit in error is POISON (R5, R6). -/
theorem StoredLine.decodeWord_poison (l : StoredLine) (w : Nat) (h : l.written = .poison)
    (e : errWeight (errWord l.errs w) = 0) : l.decodeWord w = (.poison, l.rawWord w) := by
  simp [StoredLine.decodeWord, h, e]

/-- A word of poison with one stored bit in error is MULTI (R5). -/
theorem StoredLine.decodeWord_poison_hit (l : StoredLine) (w : Nat) (h : l.written = .poison)
    (e : errWeight (errWord l.errs w) = 1) : l.decodeWord w = (.multi, l.rawWord w) := by
  simp [StoredLine.decodeWord, h, e]

/-- A word of poison with two stored bits in error is MULTI (R5; log entry 7). -/
theorem StoredLine.decodeWord_poison_two (l : StoredLine) (w : Nat) (h : l.written = .poison)
    (e : errWeight (errWord l.errs w) = 2) : l.decodeWord w = (.multi, l.rawWord w) := by
  simp [StoredLine.decodeWord, h, e]

/-- A word of data with three or more stored bits in error has a free outcome (R6; log entry 7). -/
theorem StoredLine.decodeWord_heavy (l : StoredLine) (d : LineData) (w : Nat) (h : l.written = .data d)
    (e : 3 ≤ errWeight (errWord l.errs w)) :
    l.decodeWord w = heavyWord false (lineWord d w) (l.rawWord w) (errWord l.errs w) := by
  obtain ⟨n, hn⟩ : ∃ n, errWeight (errWord l.errs w) = n + 3 := ⟨_, (Nat.sub_add_cancel e).symm⟩
  simp [StoredLine.decodeWord, h, hn]

/-- A word of poison with three or more stored bits in error has a free outcome (R6; log entry 7). -/
theorem StoredLine.decodeWord_poison_heavy (l : StoredLine) (w : Nat) (h : l.written = .poison)
    (e : 3 ≤ errWeight (errWord l.errs w)) : l.decodeWord w = heavyWord true 0 (l.rawWord w) (errWord l.errs w) := by
  obtain ⟨n, hn⟩ : ∃ n, errWeight (errWord l.errs w) = n + 3 := ⟨_, (Nat.sub_add_cancel e).symm⟩
  simp [StoredLine.decodeWord, h, hn]

/-- The limits of R6 on a free outcome: CLEAN and SINGLE do not return what was written, SINGLE corrects at most one
data bit and every other outcome returns the stored bits. -/
theorem heavyWord_limits (poison : Bool) (base stored : Word64) (e : BitVec 72) :
    let x := heavyWord poison base stored e
    (x.1 = .clean ∨ x.1 = .single → x.2 ≠ base) ∧ (x.1 ≠ .single → x.2 = stored) ∧
    (x.1 = .single → x.2 = stored ∨ ∃ b < 64, x.2 = stored ^^^ 1#64 <<< b) := by
  simp only [heavyWord]
  cases freeOutcome (Config.heavyOutcome poison base e)
  · by_cases h : stored = base <;> simp [h]
  · by_cases h : correctAt stored ((Config.heavyPosition poison base e).toNat % 72) = base
    · simp [h]
    · simp only [h, ↓reduceIte, reduceCtorEq, ne_eq, not_false_eq_true, implies_true, not_true,
        false_implies, true_and, forall_const, or_true]
      unfold correctAt
      split
      · rename_i hb
        exact Or.inr ⟨_, hb, rfl⟩
      · exact Or.inl rfl
  · simp
  · simp

/-- The bits in error counted are those of a set. -/
theorem countBits_eq_card (e : BitVec 72) (n : Nat) :
    countBits e n = ((Finset.range n).filter (fun i => e.getLsbD i = true)).card := by
  induction n with
  | zero => rfl
  | succ n ih =>
    rw [Finset.range_add_one, Finset.filter_insert]
    by_cases h : e.getLsbD n = true
    · simp [countBits, ih, h]
    · simp [countBits, ih, h]

/-- No bit in error weighs nothing. -/
theorem errWeight_zero : errWeight 0 = 0 := by decide +kernel

/-- One bit in error weighs one. -/
theorem errWeight_one (b : Nat) (h : b < 72) : errWeight (1#72 <<< b) = 1 := by
  have : ∀ b < 72, errWeight (1#72 <<< b) = 1 := by decide +kernel
  exact this b h

/-- A single bit's place. -/
theorem one_shift_getLsbD (b i : Nat) (h : b < 72) : (1#72 <<< b).getLsbD i = decide (i = b) := by
  have : 1#72 <<< b = BitVec.twoPow 72 b := by simp [BitVec.twoPow]
  rw [this, BitVec.getLsbD_twoPow]
  by_cases e : b = i
  · subst e; simp [h]
  · simp [e, Ne.symm e]

/-- Two bits in error weigh two. -/
theorem errWeight_two (b c : Nat) (h : b < 72) (l : c < b) : errWeight (1#72 <<< b ||| 1#72 <<< c) = 2 := by
  unfold errWeight
  rw [countBits_eq_card]
  have k : (Finset.range 72).filter (fun i => (1#72 <<< b ||| 1#72 <<< c).getLsbD i = true) = {b, c} := by
    ext i
    simp only [Finset.mem_filter, Finset.mem_range, BitVec.getLsbD_or, one_shift_getLsbD b i h,
      one_shift_getLsbD c i (by omega), Bool.or_eq_true, decide_eq_true_eq, Finset.mem_insert, Finset.mem_singleton]
    omega
  rw [k]
  exact Finset.card_pair (by omega)

/-- Three different bits in error weigh at least three. -/
theorem errWeight_three (e : BitVec 72) (b c d : Nat) (hb : b < 72) (hc : c < b) (hd : d < c)
    (x : e.getLsbD b = true) (y : e.getLsbD c = true) (z : e.getLsbD d = true) : 3 ≤ errWeight e := by
  unfold errWeight
  rw [countBits_eq_card]
  have h : ({b, c, d} : Finset Nat) ⊆ (Finset.range 72).filter (fun i => e.getLsbD i = true) := by
    intro i hi
    simp only [Finset.mem_insert, Finset.mem_singleton] at hi
    simp only [Finset.mem_filter, Finset.mem_range]
    rcases hi with rfl | rfl | rfl
    · exact ⟨hb, x⟩
    · exact ⟨by omega, y⟩
    · exact ⟨by omega, z⟩
  have k : ({b, c, d} : Finset Nat).card = 3 := by
    rw [Finset.card_eq_three]
    exact ⟨b, c, d, by omega, by omega, by omega, rfl⟩
  rw [← k]
  exact Finset.card_le_card h

/-- The eight word outcomes that a decoded read delivers (R10). -/
theorem LineRead.outcomes_ofWords (ws : Nat → WordOutcome × Word64) (w : Nat) (h : w < 8) :
    (LineRead.ofWords ws).outcomes[w]? = some (ws w).1 := by
  simp [LineRead.ofWords, h]

/-- Word w of the data that a decoded read delivers. -/
theorem LineRead.lineWord_ofWords (ws : Nat → WordOutcome × Word64) (w : Nat) (h : w < 8) :
    lineWord (LineRead.ofWords ws).data w = (ws w).2 := by
  simp only [LineRead.ofWords, lineWord_lineOfWords _ w h]

/-- Lines with the same eight words are the same. -/
theorem line_ext (a b : LineData) (h : ∀ w < 8, lineWord a w = lineWord b w) : a = b := by
  apply BitVec.eq_of_getLsbD_eq
  intro i hi
  have := congrArg (fun x : Word64 => x.getLsbD (i % 64)) (h (i / 64) (by omega))
  simp only [lineWord, BitVec.getLsbD_extractLsb'] at this
  have m : i % 64 < 64 := Nat.mod_lt _ (by omega)
  simpa [m, Nat.div_add_mod] using this

end Sys2Proof.Machine
end

