-- ==== Sys2Proof/Laws/Patrol.lean ====
section
/-!
SUPPORT. The choice of the lowest line: what `lowestLine` answers, for the background sweep and for a targeted scrub.
-/

namespace Sys2Proof.Machine

/-- A line of a region that qualifies, from the cursor on. -/
def qualifies (ok : Region → Bool) (rs : List (Option Region)) (c l : Nat) : Prop :=
  c ≤ l ∧ ∃ g, some g ∈ rs ∧ ok g = true ∧ g.base ≤ l ∧ l ≤ g.limit

/-- Without a lowest line no line qualifies (R108, R117). -/
theorem lowestLine_none (ok : Region → Bool) (rs : List (Option Region)) (c : Nat)
    (h : lowestLine ok rs c = none) : ∀ l, ¬ qualifies ok rs c l := by
  induction rs with
  | nil => simp [qualifies]
  | cons r rs ih =>
    rintro l ⟨hc, g, hg, ho, hb, hl⟩
    cases r with
    | none =>
      simp only [List.mem_cons, reduceCtorEq, false_or] at hg
      exact ih (by simpa [lowestLine] using h) l ⟨hc, g, hg, ho, hb, hl⟩
    | some r =>
      simp only [lowestLine] at h
      split at h
      · split at h <;> cases h
      · rename_i hn
        rcases List.mem_cons.mp hg with e | e
        · cases e
          have : c ≤ g.limit := by omega
          simp [ho, this] at hn
        · exact ih h l ⟨hc, g, e, ho, hb, hl⟩

/-- The lowest line that qualifies (R108, R117). -/
theorem lowestLine_some (ok : Region → Bool) (rs : List (Option Region)) (c l : Nat)
    (w : ∀ g, some g ∈ rs → g.base ≤ g.limit) (h : lowestLine ok rs c = some l) :
    qualifies ok rs c l ∧ ∀ l' < l, ¬ qualifies ok rs c l' := by
  induction rs generalizing l with
  | nil => simp [lowestLine] at h
  | cons r rs ih =>
    have ih := fun l => ih l (fun g hg => w g (List.mem_cons_of_mem _ hg))
    cases r with
    | none =>
      simpa [qualifies] using ih l (by simpa [lowestLine] using h)
    | some r =>
      have hr := w r (by simp)
      simp only [lowestLine] at h
      split at h
      · rename_i hq
        simp only [Bool.and_eq_true, decide_eq_true_eq] at hq
        have here : ∀ l', c ≤ l' → r.base ≤ l' → l' ≤ r.limit → qualifies ok (some r :: rs) c l' :=
          fun l' a b d => ⟨a, r, by simp, hq.1, b, d⟩
        have not : ∀ l', l' < max r.base c → (∀ g, some g ∈ rs → ok g = true → c ≤ l' → g.base ≤ l' → l' ≤ g.limit → False) →
            ¬ qualifies ok (some r :: rs) c l' := by
          rintro l' hl k ⟨a, g, hg, ho, b, d⟩
          rcases List.mem_cons.mp hg with e | e
          · cases e; omega
          · exact k g e ho a b d
        split at h
        · rename_i m hm
          have := ih m hm
          obtain ⟨⟨a, g, hg, ho, b, d⟩, k⟩ := this
          injection h with h; subst h
          constructor
          · rcases Nat.le_total (max r.base c) m with q | q
            · rw [Nat.min_eq_left q]; exact here _ (by omega) (by omega) (by omega)
            · rw [Nat.min_eq_right q]; exact ⟨a, g, by simp [hg], ho, b, d⟩
          · intro l' hl
            exact not l' (by omega) (fun g hg ho a b d => k l' (by omega) ⟨a, g, hg, ho, b, d⟩)
        · rename_i hm
          have hm := lowestLine_none ok rs c hm
          injection h with h; subst h
          exact ⟨here _ (by omega) (by omega) (by omega), fun l' hl =>
            not l' hl (fun g hg ho a b d => hm l' ⟨a, g, hg, ho, b, d⟩)⟩
      · rename_i hn
        obtain ⟨⟨a, g, hg, ho, b, d⟩, k⟩ := ih l h
        refine ⟨⟨a, g, by simp [hg], ho, b, d⟩, ?_⟩
        rintro l' hl ⟨a', g', hg', ho', b', d'⟩
        rcases List.mem_cons.mp hg' with e | e
        · injection e with e
          subst e
          have : c ≤ g'.limit := by omega
          simp [ho', this] at hn
        · exact k l' hl ⟨a', g', e, ho', b', d'⟩

end Sys2Proof.Machine
end

