-- ==== Sys2Proof/Laws/PerInstr.lean ====
section
/-!
SUPPORT. The per-command statements: each command stands at its row of spec/opcode_table.json, by its mnemonic.
-/

namespace Sys2Proof.Laws.Row

/-- The mnemonics of spec/opcode_table.json in its order, resets to grants. -/
def namesA : List String :=
  ["POWER_ON_RESET", "WARM_RESET", "RESET_RELEASE", "REQUEST_ACCEPT", "GRANT_PORT_HEAD",
   "GRANT_COPY_READ", "GRANT_PATROL"]

/-- The mnemonics of the engine, the Copy Unit and the Controller. -/
def namesB : List String :=
  ["ENTRY_ISSUE", "DEMAND_READ_COMPLETE", "PARTIAL_WRITE_READ_COMPLETE", "DEMAND_WRITE_COMPLETE",
   "RMW_POISON_WRITE_COMPLETE", "SOURCE_WRITE_COMPLETE", "WRITEBACK_COMPLETE", "PATROL_READ_COMPLETE",
   "SCRUB_WRITE_COMPLETE", "COPY_READ_COMPLETE", "TARGET_WRITE_COMPLETE", "VERIFY_COMPLETE",
   "LATE_COMPLETION", "ITEM_START", "PATROL_TIMER_EXPIRY", "FILL_WRITE_ISSUE", "FILL_WRITE_COMPLETE",
   "INIT_FILL_END", "DRAIN_COMPLETE", "HALTED_STOP_COMPLETE"]

/-- The mnemonics of the commands and register writes. -/
def namesC : List String :=
  ["INIT", "START", "STOP", "SET_REGION", "CLEAR_REGION", "RETIRE", "RELEASE", "LOAD_REMAP",
   "MARK_SPARE_BAD", "SCRUB", "INJECT", "CLEAR_SUSPECTS", "UNKNOWN_COMMAND", "COMMAND_REFUSED",
   "ARRAY_CFG_WRITE", "SUSPECT_CFG_WRITE", "PATROL_CFG_WRITE", "IRQ_CAUSE_WRITE", "IRQ_ENABLE_WRITE",
   "CMD_STATUS_WRITE", "REC_POP", "COUNTER_CLEAR", "REGISTER_WRITE", "ARRAY_CELL_FAULT"]

/-- The number of a command's row in the table, from 0. -/
def index : Sys2Proof.Instr → Nat
  | .powerOnReset => 0
  | .warmReset => 1
  | .resetRelease _ => 2
  | .requestAccept _ _ => 3
  | .grantPortHead => 4
  | .grantCopyRead => 5
  | .grantPatrol => 6
  | .entryIssue _ => 7
  | .demandReadComplete _ => 8
  | .partialWriteReadComplete _ => 9
  | .demandWriteComplete _ => 10
  | .rmwPoisonWriteComplete _ => 11
  | .sourceWriteComplete _ => 12
  | .writebackComplete _ => 13
  | .patrolReadComplete _ => 14
  | .scrubWriteComplete _ => 15
  | .copyReadComplete _ _ => 16
  | .targetWriteComplete => 17
  | .verifyComplete => 18
  | .lateCompletion _ => 19
  | .itemStart => 20
  | .patrolTimerExpiry => 21
  | .fillWriteIssue => 22
  | .fillWriteComplete _ => 23
  | .initFillEnd => 24
  | .drainComplete => 25
  | .haltedStopComplete => 26
  | .init => 27
  | .start => 28
  | .stop => 29
  | .setRegion => 30
  | .clearRegion => 31
  | .retire => 32
  | .release => 33
  | .loadRemap => 34
  | .markSpareBad => 35
  | .scrub => 36
  | .inject => 37
  | .clearSuspects => 38
  | .unknownCommand _ => 39
  | .commandRefused _ => 40
  | .arrayCfgWrite _ _ => 41
  | .suspectCfgWrite _ _ => 42
  | .patrolCfgWrite _ _ => 43
  | .irqCauseWrite _ _ => 44
  | .irqEnableWrite _ _ => 45
  | .cmdStatusWrite _ _ => 46
  | .recPop _ _ => 47
  | .counterClear _ _ _ => 48
  | .registerWrite _ _ _ => 49
  | .arrayCellFault _ _ _ => 50

/-- The command's row holds its mnemonic. -/
def Statement (i : Sys2Proof.Instr) : Prop := (namesA ++ namesB ++ namesC)[index i]? = some i.mnemonic

theorem powerOnReset : Statement (.powerOnReset) := rfl
theorem warmReset : Statement (.warmReset) := rfl
theorem resetRelease (pin : ResetPin) : Statement (.resetRelease pin) := rfl
theorem requestAccept (port : PortId) (req : Request) : Statement (.requestAccept port req) := rfl
theorem grantPortHead : Statement (.grantPortHead) := rfl
theorem grantCopyRead : Statement (.grantCopyRead) := rfl
theorem grantPatrol : Statement (.grantPatrol) := rfl
theorem entryIssue (slot : Nat) : Statement (.entryIssue slot) := rfl
theorem demandReadComplete (slot : Nat) : Statement (.demandReadComplete slot) := rfl
theorem partialWriteReadComplete (slot : Nat) : Statement (.partialWriteReadComplete slot) := rfl
theorem demandWriteComplete (slot : Nat) : Statement (.demandWriteComplete slot) := rfl
theorem rmwPoisonWriteComplete (slot : Nat) : Statement (.rmwPoisonWriteComplete slot) := rfl
theorem sourceWriteComplete (slot : Nat) : Statement (.sourceWriteComplete slot) := rfl
theorem writebackComplete (slot : Nat) : Statement (.writebackComplete slot) := rfl
theorem patrolReadComplete (slot : Nat) : Statement (.patrolReadComplete slot) := rfl
theorem scrubWriteComplete (slot : Nat) : Statement (.scrubWriteComplete slot) := rfl
theorem copyReadComplete (slot : Nat) (waiterFirst : Bool) : Statement (.copyReadComplete slot waiterFirst) := rfl
theorem targetWriteComplete : Statement (.targetWriteComplete) := rfl
theorem verifyComplete : Statement (.verifyComplete) := rfl
theorem lateCompletion (op : LateOp) : Statement (.lateCompletion op) := rfl
theorem itemStart : Statement (.itemStart) := rfl
theorem patrolTimerExpiry : Statement (.patrolTimerExpiry) := rfl
theorem fillWriteIssue : Statement (.fillWriteIssue) := rfl
theorem fillWriteComplete (line : Nat) : Statement (.fillWriteComplete line) := rfl
theorem initFillEnd : Statement (.initFillEnd) := rfl
theorem drainComplete : Statement (.drainComplete) := rfl
theorem haltedStopComplete : Statement (.haltedStopComplete) := rfl
theorem init : Statement (.init) := rfl
theorem start : Statement (.start) := rfl
theorem stop : Statement (.stop) := rfl
theorem setRegion : Statement (.setRegion) := rfl
theorem clearRegion : Statement (.clearRegion) := rfl
theorem retire : Statement (.retire) := rfl
theorem release : Statement (.release) := rfl
theorem loadRemap : Statement (.loadRemap) := rfl
theorem markSpareBad : Statement (.markSpareBad) := rfl
theorem scrub : Statement (.scrub) := rfl
theorem inject : Statement (.inject) := rfl
theorem clearSuspects : Statement (.clearSuspects) := rfl
theorem unknownCommand (code : Word32) : Statement (.unknownCommand code) := rfl
theorem commandRefused (code : Word32) : Statement (.commandRefused code) := rfl
theorem arrayCfgWrite (be : Enables) (value : Word32) : Statement (.arrayCfgWrite be value) := rfl
theorem suspectCfgWrite (be : Enables) (value : Word32) : Statement (.suspectCfgWrite be value) := rfl
theorem patrolCfgWrite (be : Enables) (value : Word32) : Statement (.patrolCfgWrite be value) := rfl
theorem irqCauseWrite (be : Enables) (value : Word32) : Statement (.irqCauseWrite be value) := rfl
theorem irqEnableWrite (be : Enables) (value : Word32) : Statement (.irqEnableWrite be value) := rfl
theorem cmdStatusWrite (be : Enables) (value : Word32) : Statement (.cmdStatusWrite be value) := rfl
theorem recPop (be : Enables) (value : Word32) : Statement (.recPop be value) := rfl
theorem counterClear (counter : Counter) (be : Enables) (value : Word32) : Statement (.counterClear counter be value) := rfl
theorem registerWrite (offset : BitVec 12) (be : Enables) (value : Word32) : Statement (.registerWrite offset be value) := rfl
theorem arrayCellFault (phys : Nat) (word : Nat) (bits : BitVec 72) : Statement (.arrayCellFault phys word bits) := rfl

end Sys2Proof.Laws.Row
end

