-- ==== Sys2Proof/Laws/Relations.lean ====
section
/-!
SUPPORT. The shared operations in the terms of Sys2Proof/Safety.lean: what an issue, a completion, a removal and the end
of a command are as relations between two states.
-/

namespace Sys2Proof.Machine

/-- Two states are equal when all their blocks are. -/
theorem State.eq_of_fields (s t : State) (pins : s.pins = t.pins) (aif : s.aif = t.aif) (lrt : s.lrt = t.lrt)
    (pool : s.pool = t.pool) (copy : s.copy = t.copy) (olt : s.olt = t.olt) (policy : s.policy = t.policy)
    (suspects : s.suspects = t.suspects) (rtq : s.rtq = t.rtq) (patrol : s.patrol = t.patrol) (erq : s.erq = t.erq)
    (irq : s.irq = t.irq) (regions : s.regions = t.regions) (ports : s.ports = t.ports)
    (arbiter : s.arbiter = t.arbiter) (ctl : s.ctl = t.ctl) (cmd : s.cmd = t.cmd) (counters : s.counters = t.counters)
    (responses : s.responses = t.responses) (freeReads : s.freeReads = t.freeReads)
    (pending : s.pending = t.pending) : s = t := by
  cases s; cases t; simp_all

/-- A line as a write stores it, with the injection that is armed for it (R5, R15). -/
theorem State.storedOf_injectionFor (u : State) (line : Nat) (d : LineData) :
    storedOf d (u.injectionFor line) = u.stores line d := by
  unfold State.stores State.injectionFor storedOf
  cases u.aif.injection with
  | none => rfl
  | some i =>
    by_cases h : i.line = line
    · simp only [h, ↓reduceIte, errBits]
      by_cases b : i.bits = 1
      · simp only [b, ↓reduceIte]
        rw [show (1 : BitVec 72).setWidth 576 = 1#576 from by decide +kernel]
      · simp only [b, ↓reduceIte]
        rw [show (3 : BitVec 72).setWidth 576 = 3#576 from BitVec.eq_of_toNat_eq (by simp)]
    · simp [h]

/-- The injection that a write leaves armed (R15). -/
theorem State.injection_after (u : State) (line : Nat) :
    (if (u.injectionFor line).isSome then none else u.aif.injection) = u.injectionLeft line := by
  unfold State.injectionLeft State.injectionFor
  cases u.aif.injection with
  | none => rfl
  | some i => by_cases h : i.line = line <;> simp [h]

/-- Issuing a write (R9, R15). -/
theorem State.issueWrite_eq (u : State) (l : Loc) (line : Nat) (d : LineData) (b : Issuer) :
    u.issueWrite l line d b = u.setAif { u.aif with
      ops := u.aif.ops ++ [u.writeOp l line d b], injection := u.injectionLeft line } := by
  rw [State.writeOp, ← State.storedOf_injectionFor, ← State.injection_after]
  rfl

/-- Issuing a read (R9). -/
theorem State.issueRead_eq (u : State) (l : Loc) (line : Nat) (d : Bool) (b : Issuer) :
    u.issueRead l line d b = u.setAif { u.aif with ops := u.aif.ops ++ [u.readOp l line d b] } := rfl

/-- Issuing a poison write (R9). -/
theorem State.issuePoison_eq (u : State) (l : Loc) (line : Nat) (b : Issuer) :
    u.issuePoison l line b = u.setAif { u.aif with ops := u.aif.ops ++ [u.poisonOp l line b] } := rfl

/-- A completion and nothing else (R9 to R11). -/
theorem State.finishOp_opDone (u : State) (op : ArrayOp) : u.opDone (u.finishOp op) op [] u.aif.injection := by
  refine ⟨?_, rfl⟩
  simp [State.finishOp]

/-- A completion depends on the Array Interface and the read counter alone. -/
theorem State.opDone_of_eq (u v t : State) (op : ArrayOp) (more : List ArrayOp) (inj : Option Injection)
    (h : u.opDone v op more inj) (a : t.aif = v.aif) (f : t.freeReads = v.freeReads) : u.opDone t op more inj := by
  unfold State.opDone at *
  rw [a, f]
  exact h

/-- The entry that leaves waits on no other entry, so its waiter's turn comes (R67). -/
theorem OpenEntry.handOver_turn (e : OpenEntry) (h : ∀ m, e.state ≠ .blocked (.entry m)) : e.handOver = .turn := by
  unfold OpenEntry.handOver
  split
  · rename_i m hm
    exact absurd hm (h m)
  all_goals rfl

/-- Retargeting a slot's waiters to their turn. -/
theorem retarget_turn (k : Nat) (e : Option OpenEntry) : retarget k .turn e = e.map (OpenEntry.afterLeaving k) := by
  cases e <;> rfl

/-- Removing the entry of a slot that waits on no other entry (R67). -/
theorem State.removeEntry_entryLeft (u v : State) (k : Nat) (e : OpenEntry) (h : u.entryAt k = some e)
    (w : ∀ m, e.state ≠ .blocked (.entry m)) (o : v.olt = u.olt) : u.entryLeft (v.removeEntry k) k := by
  have h' : v.entryAt k = some e := by
    rw [← h]
    simp only [State.entryAt, o]
  refine ⟨?_, ?_, ?_⟩
  · rw [State.entryAt_removeEntry v k k e h']
    simp
  · intro j hj
    rw [State.entryAt_removeEntry v k j e h', if_neg hj, OpenEntry.handOver_turn e w, retarget_turn]
    simp only [State.entryAt, o]
  · rw [← o]
    exact (State.removeEntry_shape v k).2 (by simp [h'])

/-- The end of a command (R192). -/
theorem State.completeCommand_eq (u : State) (r : CmdResult) : u.completeCommand r = u.done r := rfl

/-- A command that holds the slot (R189). -/
theorem State.holdSlot_eq (u : State) (c : Command) : u.holdSlot c = u.held c := rfl

/-- A write to CMD_CODE takes a command while the slot is free (R189). -/
theorem State.busWrite_cmdCode (u : State) (code : Word32) (h : u.slotFree) :
    u.busWrite .cmdCode 15 code = u.takeCode code := by
  obtain ⟨a, b, c⟩ := h
  simp [State.busWrite, State.inReset, a, b, State.writeReg, State.writeCode, State.busy, c]

/-- A full write outside reset acts on its word (R184, R198). -/
theorem State.busWrite_full (u : State) (r : Reg) (v : Word32) (a : u.pins.porst = false) (b : u.pins.wrst = false) :
    u.busWrite r 15 v = u.writeReg r v := by
  simp [State.busWrite, State.inReset, a, b]

/-- A write without all four byte enables or during a reset is ignored (R184, R198). -/
theorem State.busWrite_ignored (u : State) (r : Reg) (be : Enables) (v : Word32)
    (h : be ≠ 15 ∨ u.pins.porst = true ∨ u.pins.wrst = true) : u.busWrite r be v = u := by
  unfold State.busWrite
  rw [if_pos]
  simp only [State.inReset, Bool.or_eq_true]
  tauto

end Sys2Proof.Machine
end

