-- ==== Sys2Proof/Laws/Suspects.lean ====
section
/-!
SUPPORT. The laws of the Suspect List (R89 to R99) and of the Retirement Queue's answers (R101).
-/

namespace Sys2Proof.Machine

/-- An accepted offer found a free position, no item for the line and no copying state (R101). -/
theorem State.rtqAnswer_accepted (s : State) (line : Nat) :
    s.rtqAnswer line = .accepted ↔
      s.rtq.any (fun i => i.line == line) = false ∧ s.lineCopying line = false ∧ s.rtq.length < 8 := by
  unfold State.rtqAnswer
  grind

/-- The answer looks at the queue and the line's remap entry alone. -/
theorem State.rtqAnswer_congr (s t : State) (line : Nat) (h : t.rtq = s.rtq)
    (c : t.lineCopying line = s.lineCopying line) : t.rtqAnswer line = s.rtqAnswer line := by
  simp [State.rtqAnswer, h, c]

/-- A nomination that is accepted queues the item and removes the entry (R95). -/
theorem State.nominate_accepted (s : State) (line : Nat) (h : s.rtqAnswer line = .accepted) :
    s.nominate line = (s.enqueue (suspectItem line)).removeSuspect line := by
  simp [State.nominate, h]

/-- A nomination refused as ALREADY_PENDING removes the entry (R95). -/
theorem State.nominate_pending (s : State) (line : Nat) (h : s.rtqAnswer line = .alreadyPending) :
    s.nominate line = s.removeSuspect line := by
  simp [State.nominate, h]

/-- A nomination refused as QUEUE_FULL leaves the entry waiting (R95). -/
theorem State.nominate_full (s : State) (line : Nat) (h : s.rtqAnswer line = .queueFull) :
    s.nominate line = s.setWaiting line := by
  simp [State.nominate, h]

/-- A nomination never overfills the queue (R100). -/
theorem State.nominate_rtq_length (s : State) (line : Nat) (h : s.rtq.length ≤ 8) :
    (s.nominate line).rtq.length ≤ 8 := by
  unfold State.nominate
  split
  · rename_i ha
    have := (s.rtqAnswer_accepted line).mp ha
    simp [State.enqueue]; omega
  · simpa using h
  · simpa using h

/-- What remains after a line's entry is dropped. -/
@[simp] theorem mem_dropSuspect (es : List Suspect) (line : Nat) (e : Suspect) :
    e ∈ dropSuspect es line ↔ e ∈ es ∧ e.line ≠ line := by
  simp [dropSuspect]

/-- Dropping a line that has an entry shortens the list. -/
theorem dropSuspect_length_lt (es : List Suspect) (e : Suspect) (h : e ∈ es) :
    (dropSuspect es e.line).length < es.length := by
  unfold dropSuspect
  have := List.length_filter_lt_length_iff_exists (l := es) (p := fun x => decide (x.line ≠ e.line))
  exact this.mpr ⟨e, h, by simp⟩

/-- Dropping never lengthens the list. -/
theorem dropSuspect_length_le (es : List Suspect) (line : Nat) : (dropSuspect es line).length ≤ es.length :=
  List.length_filter_le _ _

/-- The evicted entry stands in the list and is not waiting (R94). -/
theorem victim_some (es : List Suspect) (v : Suspect) (h : victim es = some v) : v ∈ es ∧ v.waiting = false := by
  induction es generalizing v with
  | nil => simp [victim] at h
  | cons e es ih =>
    simp only [victim] at h
    split at h
    · rename_i u hu
      split at h
      · rename_i hc
        simp only [Option.some.injEq] at h
        subst h
        simp only [Bool.and_eq_true, Bool.not_eq_true'] at hc
        exact ⟨by simp, hc.1⟩
      · simp only [Option.some.injEq] at h
        subst h
        exact ⟨List.mem_cons_of_mem _ (ih _ hu).1, (ih _ hu).2⟩
    · split at h
      · simp at h
      · rename_i hw
        simp only [Option.some.injEq] at h
        subst h
        exact ⟨by simp, by simpa using hw⟩

/-- The evicted entry has the smallest count of the entries not waiting (R94). -/
theorem victim_least (es : List Suspect) (v : Suspect) (h : victim es = some v) :
    ∀ e ∈ es, e.waiting = false → v.count ≤ e.count := by
  induction es generalizing v with
  | nil => simp
  | cons x es ih =>
    intro e he hw
    simp only [victim] at h
    split at h
    · rename_i u hu
      have iu := ih u hu
      split at h
      · rename_i hc
        simp only [Option.some.injEq] at h
        subst h
        simp only [Bool.and_eq_true, decide_eq_true_eq] at hc
        rcases List.mem_cons.mp he with rfl | he
        · exact le_refl _
        · exact le_trans hc.2 (iu e he hw)
      · rename_i hc
        simp only [Option.some.injEq] at h
        subst h
        rcases List.mem_cons.mp he with rfl | he
        · by_contra hlt
          exact hc (by simp [hw]; omega)
        · exact iu e he hw
    · rename_i hn
      split at h
      · simp at h
      · simp only [Option.some.injEq] at h
        subst h
        rcases List.mem_cons.mp he with rfl | he
        · exact le_refl _
        · exfalso
          clear ih
          induction es with
          | nil => simp at he
          | cons y ys ihy =>
            simp only [victim] at hn
            split at hn
            · split at hn <;> simp at hn
            · rename_i hn'
              split at hn
              · rename_i hy
                rcases List.mem_cons.mp he with rfl | he
                · simp [hw] at hy
                · exact ihy (List.mem_cons_of_mem _ he) hn' he
              · simp at hn

/-- An updated entry stands at the tail, and no other entry of its line stays (R89). -/
@[simp] theorem State.suspectAtTail_entries (s : State) (e : Suspect) :
    (s.suspectAtTail e).suspects =
      { s.suspects with entries := dropSuspect s.suspects.entries e.line ++ [e] } := rfl

/-- A removed entry is dropped and nothing else changes in the list. -/
@[simp] theorem State.removeSuspect_suspects (s : State) (line : Nat) :
    (s.removeSuspect line).suspects = { s.suspects with entries := dropSuspect s.suspects.entries line } := rfl

/-- Without a waiting entry nothing is offered again (R96). -/
theorem State.reoffer_none (s : State) (h : ∀ e ∈ s.suspects.entries, e.waiting = false) : s.reoffer = s := by
  have : s.waitingLines = [] := by
    simp only [State.waitingLines, List.map_eq_nil_iff, List.filter_eq_nil_iff]
    intro e he
    simp [h e he]
  simp [State.reoffer, this, reofferLines]

/-- The first waiting entry is offered first (R96). -/
theorem State.reoffer_first (s : State) (a b : List Suspect) (x : Suspect) (h : s.suspects.entries = a ++ x :: b)
    (ha : ∀ e ∈ a, e.waiting = false) (hx : x.waiting = true) :
    s.reoffer = reofferLines (x.line :: (b.filter (fun e => e.waiting)).map (fun e => e.line)) s := by
  have : a.filter (fun e => e.waiting) = [] := by
    simp only [List.filter_eq_nil_iff]
    intro e he
    simp [ha e he]
  simp [State.reoffer, State.waitingLines, h, this, hx]

/-- Re-offers look at the queue, the list and the remap table alone, and change the queue and the list alone. -/
theorem reofferLines_congr (ls : List Nat) (s t : State) (q : t.rtq = s.rtq) (e : t.suspects = s.suspects)
    (r : t.lrt = s.lrt) :
    (reofferLines ls t).rtq = (reofferLines ls s).rtq ∧ (reofferLines ls t).suspects = (reofferLines ls s).suspects := by
  induction ls generalizing s t with
  | nil => exact ⟨q, e⟩
  | cons line ls ih =>
    have c : t.lineCopying line = s.lineCopying line := by simp [State.lineCopying, State.entryOf, r]
    simp only [reofferLines, State.rtqAnswer_congr s t line q c]
    cases s.rtqAnswer line
    · simp [State.enqueue, State.removeSuspect, State.setSuspectEntries, State.setSuspects, State.setRtq, q, e]
    · exact ⟨q, e⟩
    · exact ih _ _ (by simpa using q) (by simp [e]) (by simpa using r)

/-- Re-offers look at the queue, the list and the remap table alone. -/
theorem State.reoffer_congr (s t : State) (q : t.rtq = s.rtq) (e : t.suspects = s.suspects) (r : t.lrt = s.lrt) :
    t.reoffer.rtq = s.reoffer.rtq ∧ t.reoffer.suspects = s.reoffer.suspects := by
  have : t.waitingLines = s.waitingLines := by simp [State.waitingLines, e]
  unfold State.reoffer
  rw [this]
  exact reofferLines_congr _ s t q e r

end Sys2Proof.Machine
end

