-- ==== Sys2Proof/Laws/Window.lean ====
section
/-!
SUPPORT. The register window's map (11.5): the word at each offset of a collection view, the words that a write can
change, and what a read gives.
-/

namespace Sys2Proof.Machine

/-- A word that some write changes. -/
def Reg.writable : Reg → Bool
  | .arrayCfg => true
  | .policy => true
  | .suspectCfg => true
  | .patrolCfg => true
  | .spareCfg => true
  | .cmdCode => true
  | .cmdArg0 => true
  | .cmdArg1 => true
  | .cmdArg2 => true
  | .cmdStatus => true
  | .stageA => true
  | .stageB => true
  | .stageC => true
  | .recPop => true
  | .irqCause => true
  | .irqEnable => true
  | .counter _ => true
  | .id => false
  | .state => false
  | .initProgress => false
  | .patrolCursor => false
  | .spareCounts => false
  | .lrtGen => false
  | .recHead _ => false
  | .recLevel => false
  | .regionView _ _ => false
  | .portStatus _ => false
  | .suspectView _ _ => false
  | .rtqView _ => false
  | .lrtView _ _ => false
  | .spareView _ => false

/-- A write to any other word is ignored (R184). -/
theorem State.writeReg_readOnly (s : State) (r : Reg) (v : Word32) (h : r.writable = false) : s.writeReg r v = s := by
  cases r <;> simp [Reg.writable] at h <;> rfl

/-- The offsets of the writable words. -/
def writableOffsets : List (BitVec 12) :=
  [0x010, 0x014, 0x018, 0x01C, 0x024, 0x040, 0x044, 0x048, 0x04C, 0x050, 0x060, 0x064, 0x068, 0x090, 0x0A0, 0x0A4] ++
  [0x0C0, 0x0C4, 0x0C8, 0x0CC, 0x0D0, 0x0D4, 0x0D8, 0x0DC, 0x0E0, 0x0E4, 0x0E8, 0x0EC, 0x0F0, 0x0F4]

/-- At every other offset there is no writable word. -/
theorem regAt_writable (o : BitVec 12) (h : o ∉ writableOffsets) (r : Reg) (e : regAt o = some r) :
    r.writable = false := by
  have all : ∀ a < 64, ∀ b < 64, (regAt (BitVec.ofNat 12 (64 * a + b))).all
      (fun r => !r.writable || writableOffsets.contains (BitVec.ofNat 12 (64 * a + b))) = true := by decide +kernel
  have eq : BitVec.ofNat 12 (64 * (o.toNat / 64) + o.toNat % 64) = o := by
    rw [Nat.div_add_mod]
    simp
  have := all (o.toNat / 64) (by omega) (o.toNat % 64) (Nat.mod_lt _ (by omega))
  rw [eq] at this
  simpa [e, h] using this

/-- A write at every other offset changes nothing (R184). -/
theorem State.windowWrite_readOnly (s : State) (o : BitVec 12) (be : Enables) (v : Word32) (h : o ∉ writableOffsets) :
    s.windowWrite o be v = s := by
  unfold State.windowWrite
  cases e : regAt o with
  | none => rfl
  | some r =>
    simp only [State.busWrite]
    split
    · rfl
    · exact s.writeReg_readOnly r v (regAt_writable o h r e)

/-- The words of the region view. -/
theorem regAt_regionView : ∀ k < 8, ∀ w < 4, regAt (BitVec.ofNat 12 (0x100 + 16 * k + 4 * w)) = some (.regionView k w) := by
  decide +kernel
/-- The words of the suspect view. -/
theorem regAt_suspectView : ∀ k < 16, ∀ w < 2, regAt (BitVec.ofNat 12 (0x200 + 8 * k + 4 * w)) = some (.suspectView k w) := by
  decide +kernel
/-- The words of the Retirement Queue's view. -/
theorem regAt_rtqView : ∀ k < 8, regAt (BitVec.ofNat 12 (0x280 + 4 * k)) = some (.rtqView k) := by decide +kernel
/-- The words of the remap table's view. -/
theorem regAt_lrtView : ∀ k < 128, ∀ w < 2, regAt (BitVec.ofNat 12 (0x400 + 8 * k + 4 * w)) = some (.lrtView k w) := by
  decide +kernel
/-- The words of the spare view. -/
theorem regAt_spareView : ∀ n < 128, regAt (BitVec.ofNat 12 (0x800 + 4 * n)) = some (.spareView n) := by decide +kernel

/-- Outside a reset a read gives the word at its offset (R184). -/
theorem State.readWindow_eq (s : State) (o : BitVec 12) (r : Reg) (a : s.pins.porst = false) (b : s.pins.wrst = false)
    (h : regAt o = some r) : s.readWindow o = s.settle.viewReg r := by
  simp [State.readWindow, State.inReset, a, b, h]

end Sys2Proof.Machine
end

