-- ==== Sys2Proof/Tests/Slice0.lean ====
section
/-!
SUPPORT. Tests: ill-formed commands that the check refuses, the spec's own examples of one event, and for every obligation
with hypotheses small states that meet them, clause by clause.
-/

namespace Sys2Proof.Tests
open Sys2Proof Sys2Proof.Machine

-- One test after another: side by side they would take a thread each.
set_option Elab.async false

/-! ## Well-formed commands -/

theorem test_slot_range : (Instr.entryIssue 7).wf = true ∧ (Instr.entryIssue 8).wf = false ∧
    (Instr.demandReadComplete 8).wf = false ∧ (Instr.partialWriteReadComplete 8).wf = false ∧
    (Instr.demandWriteComplete 8).wf = false ∧ (Instr.rmwPoisonWriteComplete 8).wf = false ∧
    (Instr.sourceWriteComplete 8).wf = false ∧ (Instr.writebackComplete 8).wf = false ∧
    (Instr.patrolReadComplete 8).wf = false ∧ (Instr.scrubWriteComplete 8).wf = false ∧
    (Instr.copyReadComplete 8 true).wf = false ∧ (Instr.lateCompletion (.entry 8)).wf = false := by decide
theorem test_late_array_range : (Instr.lateCompletion (.array 16777215)).wf = true ∧
    (Instr.lateCompletion (.array 16777216)).wf = false := by decide
theorem test_fill_line_range : (Instr.fillWriteComplete 16777087).wf = true ∧
    (Instr.fillWriteComplete 16777088).wf = false := by decide
theorem test_unknown_code_range : (Instr.unknownCommand 0).wf = true ∧ (Instr.unknownCommand 13).wf = true ∧
    (Instr.unknownCommand 1).wf = false ∧ (Instr.unknownCommand 12).wf = false := by decide
theorem test_offset_alignment : (Instr.registerWrite 0xFFC 15 0).wf = true ∧
    (Instr.registerWrite 0x002 15 0).wf = false := by decide
theorem test_cell_fault_range : (Instr.arrayCellFault 0 7 1).wf = true ∧ (Instr.arrayCellFault 16777216 0 1).wf = false ∧
    (Instr.arrayCellFault 0 8 1).wf = false ∧ (Instr.arrayCellFault 0 0 0).wf = false := by decide
theorem test_no_word_spells_a_command : decodeTableWord 8 1 = none ∧ State.reset.withFetchWord 8 1 = State.reset := by
  decide +kernel

/-! ## Small states -/

/-- The state after a command. -/
def after (i : Instr) (s : State) : State :=
  match exec i s with
  | .next t => t
  | .fault _ => s
  | .refused _ => s

/-- A region over lines 0 to FFFh. -/
def region (cls : CheckClass) (wp patrol : Bool) (r w : BitVec 4) : Region :=
  { base := 0, limit := 0xFFF, cls := cls, writeProtect := wp, patrol := patrol, readMask := r, writeMask := w }

/-- A RUNNING device with one region. -/
def run (g : Region) : State :=
  { State.reset with
    ctl := { state := .running, haltReason := .none, initProgress := 1048448 }
    regions := { entries := some g :: List.replicate 7 none, stage := .zero } }

/-- A RUNNING device with one CHECKED region open to every port. -/
def base : State := run (region .checked false true 15 15)

/-- The device in another controller state. -/
def inState (c : CtlState) (s : State) : State := { s with ctl := { s.ctl with state := c } }

/-- With other policies. -/
def policies (wb retire halt poison : Bool) (s : State) : State :=
  { s with policy := { writebackOnCorrect := wb, retireOnUe := retire, haltOnUe := halt, poisonOnUe := poison } }

/-- An entry of line 5. -/
def entry (w : Work) (st : EntryState) (place : Option Place) (res : Option EntryResult) (cls : CheckClass) : OpenEntry :=
  { work := w, line := 5, cls := cls, place := place, state := st, result := res }

/-- The device with one entry in slot 0. -/
def withEntry (e : OpenEntry) (s : State) : State :=
  { s with olt := { slots := some e :: List.replicate 7 none, order := [0] } }

/-- The device with one array operation on physical line p, and what is stored there. -/
def withOp (k : ArrayOpKind) (b : Issuer) (p : Nat) (l : StoredLine) (s : State) : State :=
  { s with aif := { s.aif with ops := [{ kind := k, phys := p, line := 5, issuer := b }], mem := [(p, l)] } }

/-- Stored data with bits of word 0 in error. -/
def stored (errs : BitVec 576) : StoredLine := { written := .data 0x1234, errs := errs }

/-- A demand read of P1 with tag 3 whose read completes on stored contents. -/
def reading (cls : CheckClass) (l : StoredLine) : State :=
  withOp (.readLine (decide (cls = .checked))) (.engine 0) 5 l
    (withEntry (entry (.demandRead .p1 3) .reading (some (.loc .home)) none cls) base)

/-- A partial demand write of byte 0. -/
def partialWork : Work := .demandWrite .p1 3 1 0xFF

/-- A demand write in a state, with an operation outstanding. -/
def writing (w : Work) (st : EntryState) (place : Place) (res : Option EntryResult) (k : ArrayOpKind) (l : StoredLine) : State :=
  withOp k (.engine 0) 5 l (withEntry (entry w st (some place) res .checked) base)

/-- What the hypotheses of a completion ask of slot 0, in the opened state. -/
def completes (s : State) (w : Work) (st : EntryState) (place : Option Place) (res : Option EntryResult)
    (k : ArrayOpKind) : Bool :=
  match s.opened.entryOp 0 with
  | some (e, op) => decide (e.work = w ∧ e.state = st ∧ e.place = place ∧ e.result = res ∧ op.kind = k)
  | none => false

/-- The Patrol Unit with line 5 in flight. -/
def patrolling (owner : Activity) (st : EntryState) (k : ArrayOpKind) (l : StoredLine) : State :=
  let s := withOp k (.engine 0) 5 l (withEntry (entry .patrol st (some (.loc .home)) none .checked) base)
  { s with patrol := { PatrolUnit.reset with
    state := .inFlight, mode := .continuous, cursor := 6, visited := true
    candidate := some { line := 5, owner := owner } } }

/-- An item for line 5. -/
def item (a : ItemAction) (cmd : Bool) : RetireItem := { line := 5, action := a, origin := .command, command := cmd }

/-- All spares FREE but the listed ones. -/
def spareStates (spares : List (Nat × SpareState)) : List SpareState :=
  spares.foldl (fun l x => l.set x.1 x.2) (List.replicate 128 .free)

/-- The Copy Unit at work on line 5. -/
def copying (i : RetireItem) (rs : RemapState) (c : CopyUnit) (spares : List (Nat × SpareState)) (s : State) : State :=
  { s with
    lrt := { slots := some { line := 5, state := rs, origin := .command } :: List.replicate 127 none, gen := 7 }
    pool := { spares := spareStates spares, lowLevel := 8 }
    copy := { c with item := some i, itemNo := 4 } }

/-- The Copy Unit with a valid buffer. -/
def unit (st : CopyState) (poison dirty hold : Bool) (rewrites attempts : Nat) (ex : Expected) : CopyUnit :=
  { CopyUnit.reset with
    state := st, buffer := { data := 0x77, poison := poison, valid := true }, dirty := dirty, hold := hold
    rewrites := some rewrites, attempts := some attempts, expected := some ex }

/-- Physical line of spare n in the smallest array. -/
def spareLine (n : Nat) : Nat := 1048448 + n

/-- A verify read of spare 2, or of home for a release, about to complete. -/
def verifying (i : RetireItem) (rs : RemapState) (c : CopyUnit) (spares : List (Nat × SpareState)) (p : Nat)
    (l : StoredLine) : State :=
  withOp (.readLine true) (.copyUnit 4) p l (copying i rs c spares base)

/-- What the hypotheses of a verify completion ask, with the outcome. -/
def verifies (s : State) (o : LineOutcome) (rs : RemapState) : Bool :=
  match s.opened.copyOp true, s.opened.copy.item with
  | some op, some i =>
    decide (s.opened.copy.state = .verify ∧ (s.opened.decodedRead op.phys).outcome = o ∧
      (s.opened.entryOf i.line).map (fun e => e.state) = some rs)
  | _, _ => false

/-- All spares but those listed are BAD. -/
def noFree (held : List Nat) : List (Nat × SpareState) :=
  (List.range 128).map (fun n => (n, if n ∈ held then .held else .bad))

/-! ## Words and lines (R5 to R7, R15) -/

/-- The five rows of the decoding examples of section 1.3. -/
theorem test_decoding_examples :
    let r : (Nat → WordOutcome) → LineOutcome × WordMask × WordMask := fun f =>
      let x := LineRead.ofWords (fun w => (f w, 0))
      (x.outcome, x.corrected, x.errors)
    r (fun _ => .clean) = (.clean, 0, 0) ∧
    r (fun w => if w = 2 ∨ w = 6 then .single else .clean) = (.corrected, 0x44, 0) ∧
    r (fun w => if w = 3 then .multi else if w = 5 then .single else .clean) = (.uncorrectable, 0x20, 0x08) ∧
    r (fun w => if w = 1 then .multi else .poison) = (.poisoned, 0, 0xFF) ∧
    r (fun w => if w < 4 then .poison else .multi) = (.uncorrectable, 0, 0xFF) := by decide +kernel
/-- Both sides of the limit of five POISON words. -/
theorem test_witness_LineOutcomeAndMasks :
    let o : Nat → LineOutcome := fun n => (LineRead.ofWords (fun w => (if w < n then .poison else .clean, 0))).outcome
    o 5 = .poisoned ∧ o 4 = .uncorrectable ∧ o 0 = .clean ∧
    (LineRead.ofWords (fun w => (if w = 6 then .multi else .poison, 0))).outcomes =
      [.poison, .poison, .poison, .poison, .poison, .poison, .multi, .poison] := by decide +kernel
/-- One bit in error is corrected, also a check bit; two are not; a poison word with one or two is MULTI. -/
theorem test_word_errors :
    (stored 1).decodeWord 0 = (.single, 0x1234) ∧ (stored (1 <<< 64)).decodeWord 0 = (.single, 0x1234) ∧
    (stored 3).decodeWord 0 = (.multi, 0x1237) ∧ storedPoison.decodeWord 3 = (.poison, 0) ∧
    (storedPoison.damage 3 1).decodeWord 3 = (.multi, 1) ∧ (storedPoison.damage 3 9).decodeWord 3 = (.multi, 9) := by decide +kernel
/-- An injection of one or two bits into word 3 (section 1.7). -/
theorem test_injection :
    (storedOf 0 (some { line := 5, word := 3, bits := 1 })).decoded.corrected = 8 ∧
    (storedOf 0 (some { line := 5, word := 3, bits := 2 })).decoded.errors = 8 ∧
    (storedOf 0 (some { line := 5, word := 3, bits := 2 })).raw = 3 <<< 192 := by decide +kernel
theorem test_spare_places : physOf .s20 0x40 (.spare 9) = 0xFFF89 ∧ physOf .s24 0x40 .home = 0x40 ∧
    ArraySize.s24.logical = 16777088 := by decide

/-! ## Steps and resets -/

/-- A table with no entry has none in any slot. -/
theorem noEntries (s : State) (h : s.olt.slots = List.replicate 8 none) (k : Nat) : s.entryAt k = none := by
  simp only [State.entryAt, h, List.getD_eq_getElem?_getD, List.getElem?_replicate]
  split <;> rfl

/-- With a command queue. -/
def queued (cs : List Instr) (s : State) : State := { s with pending := cs }

/-- With items in the Retirement Queue. -/
def withItems (is : List RetireItem) (s : State) : State := { s with rtq := is }

theorem test_witness_StepRunsFrontCommand :
    (queued [.init, .start] State.reset).pending = .init :: [.start] ∧
    step (queued [.init, .start] State.reset) = exec .init (queued [.start] State.reset) ∧
    (after .init (queued [.start] State.reset)).ctl.state = .initializing := ⟨rfl, rfl, by decide +kernel⟩
theorem test_witness_EmptyQueueSettlesAndIdles :
    let s := withItems [item .move false] base
    s.pending = [] ∧ s.settled = false ∧ s.opened.copy.state = .readSource ∧ s.opened.settled = true ∧
    State.reset.settled = true ∧ State.reset.opened = State.reset := by decide +kernel
theorem test_power_on_and_release :
    (after .powerOnReset base).pins = { porst := true, wrst := false } ∧
    (after .powerOnReset base).regions = State.reset.regions ∧
    after (.resetRelease .porst) (after .powerOnReset base) = State.reset ∧
    (after (.resetRelease .wrst) { base with pins := { porst := true, wrst := true } }).pins =
      { porst := true, wrst := false } := by decide +kernel
/-- A warm reset keeps the regions, restores the entry that was being copied and stores the write that was issued. -/
theorem test_warm_reset :
    let s := withOp .writePoison (.copyUnit 4) (spareLine 2) (stored 0)
      (copying (item .move true) (.moving 1 2 6) (unit .writeTarget true false false 0 1 .poisoned) [(1, .held), (2, .held)] base)
    let t := after .warmReset s
    t.ctl.state = .stopped ∧ t.regions = s.regions ∧ (t.entryOf 5).map (fun e => e.state) = some (.active 1 6) ∧
    t.pool.get 2 = .free ∧ t.aif.mem.get (spareLine 2) = some storedPoison ∧ t.aif.ops = [] ∧ t.irq = .reset ∧
    t.cmd = .reset ∧ (after .warmReset { s with ctl := { s.ctl with state := .initializing, initProgress := 7 } }).ctl = State.reset.ctl := by decide +kernel
/-- The last write issued to a physical line is what the line holds; a read changes nothing. -/
theorem test_witness_WarmResetKeepsAndClears :
    let op : ArrayOpKind → Nat → ArrayOp := fun k p => { kind := k, phys := p, line := p, issuer := .controller }
    let ops := [op (.writeLine (stored 0)) 5, op .writePoison 6, op (.readLine true) 5, op .writePoison 5]
    let reads : ArrayOp → Bool := fun o => match o.kind with | .readLine _ => true | .writeLine _ => false | .writePoison => false
    let m : Memory := [(6, stored 1), (7, stored 3)]
    (∀ o ∈ ops, o.phys = 7 → reads o = true) ∧ (applyAll ops m).get 7 = m.get 7 ∧ (applyAll [] m).get 9 = none ∧
    (∀ o ∈ [op (.readLine true) 5], o.phys = 5 → reads o = true) ∧
    (applyAll ops m).get 5 = some storedPoison ∧ (applyAll (ops.take 3) m).get 5 = some (stored 0) ∧
    (applyAll ops m).get 6 = some storedPoison := by decide +kernel
/-- A read that the event before a reset left to the copy buffer is answered in the reset's own step (R157). -/
theorem test_response_due_at_a_reset :
    let s := withEntry (entry (.demandRead .p1 3) (.blocked .turn) none none .checked)
      (copying (item .move false) (.copying 2) (unit .verify false false false 0 1 .clean) [(2, .held)] base)
    let r : List Response := [{ port := .p1, tag := 3, status := .ok, data := some 0x77, mask := 0 }]
    s.responses = [] ∧ (after .warmReset s).responses = r ∧ (after .powerOnReset s).responses = r := by decide +kernel
theorem test_witness_QuietAbortRestoresTheEntry :
    let u : RemapState → State := fun st => copying (item .move false) st CopyUnit.reset [(1, .held), (2, .held)] base
    (∀ e ∈ (u (.active 1 2)).lrt.entries, e.state.copying? = false) ∧
    ∀ st ∈ [RemapState.copying 2, .moving 1 2 3, .releasing 1 3],
      ((u st).lrt.entries.map (fun x => x.line)).Nodup ∧
      (u st).lrt.entries = [{ line := 5, state := st, origin := .command }] ∧
      (u st).quietAbort.lrt.gen = 8 ∧
      ((u st).quietAbort.entryOf 5).map (fun e => e.state) =
        (if st = .copying 2 then none else some (.active 1 3)) := by decide +kernel

/-! ## Ports and grants -/

/-- A request for line 5 with tag 3. -/
def req (k : ReqKind) : Request := { kind := k, tag := 3, line := 5 }

/-- With a queue and its tags on port 1. -/
def onPort (rs : List Request) (s : State) : State :=
  { s with ports := s.ports.set .p1 { queue := rs, tags := rs.map (fun r => r.tag) } }

/-- Eight requests. -/
def eight : List Request := (List.range 8).map (fun n => { req .read with tag := BitVec.ofNat 5 (n + 8) })

theorem test_request_acceptance :
    let a : State → List Response × List Request := fun s =>
      let t := after (.requestAccept .p1 (req .read)) s
      (t.responses, t.ports.p1.queue)
    let r : RespStatus → Response := fun st => { port := .p1, tag := 3, status := st, data := some 0, mask := 0 }
    a base = ([], [req .read]) ∧ a (onPort [req .read] base) = ([r .tagBusy], [req .read]) ∧
    a (inState .halted base) = ([r .halted], []) ∧ a State.reset = ([r .notReady], []) ∧
    a (onPort (eight.take 7) base) = ([], eight.take 7 ++ [req .read]) ∧ a (onPort eight base) = ([], eight) ∧
    a { base with pins := { porst := false, wrst := true } } = ([], []) ∧
    (after (.requestAccept .p1 (req (.write 1 0))) (inState .draining base)).responses =
      [{ r .notReady with data := none }] := by decide +kernel

/-- The Patrol Unit with line 5 as candidate. -/
def issuing (owner : Activity) (s : State) : State :=
  { s with patrol := { PatrolUnit.reset with
      state := .issuing, mode := .continuous, activity := owner, cursor := 6
      candidate := some { line := 5, owner := owner }
      scrub := if owner = .scrub then some { first := 5, last := 9, cursor := 6 } else none } }

/-- With a patrol wait count. -/
def waited (n : Nat) (s : State) : State := { s with arbiter := { pointer := .p2, patrolWait := n } }

/-- Every slot of the Open-Line Table taken. -/
def fullTable (s : State) : State :=
  { s with olt := { slots := List.replicate 8 (some (entry .patrol .reading none none .checked)), order := List.range 8 } }

/-- The Copy Unit waits for the grant of its copy read. -/
def wantsCopy (s : State) : State :=
  copying (item .move false) (.copying 2) { unit .readSource false false false 0 1 .clean with expected := none } [(2, .held)] s

theorem test_witness_ArbiterPrecedence :
    let s := onPort [req .read] (issuing .background base)
    let c := wantsCopy s
    ((fullTable c).choice = none ∧ ∀ k < 8, ((fullTable c).entryAt k).isSome = true) ∧
    (c.choice = some .copyRead ∧ c.copy.state = .readSource ∧ c.ctl.state = .running ∧ c.emptySlot = some 0 ∧
      (waited 16 c).choice = some .copyRead) ∧
    (s.copy.state = .idle ∧ s.patrol.state = .issuing ∧ (waited 16 s).choice = some .patrol ∧
      (waited 15 s).choice = some (.port .p1)) ∧
    (portScan (waited 15 s).arbiter.pointer = [.p2, .p3, .p0, .p1] ∧ s.ports.p1.queue ≠ []) ∧
    (waited 0 (issuing .background base)).choice = some .patrol ∧ base.choice = none := by decide +kernel
theorem test_witness_ArbiterPrecedence_copy :
    ∀ k, ∀ e ∈ (wantsCopy base).entryAt k, e.work ≠ .copyRead (wantsCopy base).copy.itemNo := by
  intro k e he
  rw [noEntries (wantsCopy base) (by decide +kernel) k] at he
  cases he

/-- The state just before the head of port 1 is granted. -/
def headed (g : Option Region) (k : ReqKind) : State :=
  match g with
  | some g => onPort [req k] (run g)
  | none => onPort [{ req k with line := 0x1000 }] base

theorem test_witness_PortHeadAnsweredAtGrant :
    let ok : State → RespStatus → List RecordKind → Bool := fun s st ks =>
      let t := after .grantPortHead s
      decide (s.opened.choice = some (.port .p1) ∧ s.opened.ports.p1.queue.length = 1 ∧
        t.responses.map (fun r => r.status) = [st] ∧ t.erq.records.map (fun r => r.kind) = ks ∧
        t.ports.p1 = { queue := [], tags := [] } ∧ t.arbiter.pointer = .p2)
    ((headed none .read).opened.regionOf 0x1000 = none ∧ ok (headed none .read) .unmapped [.accessDenied] = true) ∧
    (permits 13 .p1 = false ∧ ok (headed (some (region .checked false true 13 15)) .read) .denied [.accessDenied] = true) ∧
    ok (headed (some (region .checked false true 15 13)) (.write 1 0)) .denied [.accessDenied] = true ∧
    ok (headed (some (region .checked true true 15 15)) (.write 0 0)) .denied [.accessDenied] = true ∧
    ok (headed (some (region .checked false true 15 2)) (.write 0 0)) .ok [] = true := by decide +kernel
theorem test_witness_PortHeadBecomesEntry :
    let s := headed (some (region .unchecked true true 2 0)) .read
    let v := withEntry (entry (.demandRead .p0 9) .reading (some (.loc .home)) none .checked)
      (headed (some (region .checked false true 0 2)) (.write 1 0))
    (s.opened.choice = some (.port .p1) ∧ s.opened.entryAt 0 = none ∧
      (after .grantPortHead s).entryAt 0 = some (entry (.demandRead .p1 3) (.blocked .turn) none none .unchecked) ∧
      (after .grantPortHead s).ports.p1.tags = [3]) ∧
    (v.opened.choice = some (.port .p1) ∧ v.opened.entryAt 1 = none ∧ (v.opened.entryAt 0).isSome = true ∧
      v.opened.newestOf 5 = some 0 ∧
      (after .grantPortHead v).entryAt 1 =
        some (entry (.demandWrite .p1 3 1 0) (.blocked (.entry 0)) none none .checked)) := by decide +kernel
theorem test_witness_UnitsGranted :
    let g : Region → Activity → State := fun r a => issuing a (run r)
    let swept := region .checked false true 0 0
    let plain := region .checked false false 0 0
    let raw := region .unchecked false true 0 0
    ((wantsCopy base).opened.choice = some .copyRead ∧ (wantsCopy base).opened.copy.item = some (item .move false) ∧
      (after .grantCopyRead (wantsCopy base)).entryAt 0 =
        some (entry (.copyRead 4) (.blocked .turn) none none .checked)) ∧
    (∀ r ∈ [swept, plain, raw], ∀ a ∈ [Activity.background, .scrub],
      (g r a).opened.choice = some .patrol ∧ (g r a).opened.regionOf 5 = some r ∧ (g r a).opened.entryAt 0 = none) ∧
    (after .grantPatrol (g swept .background)).patrol.state = .inFlight ∧
    (after .grantPatrol (g plain .scrub)).patrol.state = .inFlight ∧
    (after .grantPatrol (g plain .background)).patrol.state = .waiting ∧
    (after .grantPatrol (g raw .scrub)).patrol.state = .waiting ∧
    (after .grantPatrol (g raw .scrub)).patrol.activity = .background := by decide +kernel

/-! ## The Line Engine: issue -/

/-- An entry of slot 0 whose turn has come, before the step. -/
def due (w : Work) (cls : CheckClass) (s : State) : State := withEntry (entry w (.blocked .turn) none none cls) s

/-- A device that copies line 5 to spare 2 with a valid buffer. -/
def buffered (poison hold : Bool) : State :=
  copying (item .move false) (.copying 2) (unit .verify poison false hold 0 1 .clean) [(2, .held)] base

theorem test_witness_EntryIssuesAtTheArray :
    let full : Work := .demandWrite .p1 3 (BitVec.allOnes 64) 0xFF
    let ok : Work → EntryState → ArrayOpKind → Bool := fun w st k =>
      let s := due w .checked base
      let t := after (.entryIssue 0) s
      decide ((s.entryAt 0).map (fun e => (e.work, e.state)) = some (w, .blocked .turn) ∧ s.ctl.state = .running ∧
        s.lookup 5 = .loc .home ∧ s.lineCopying 5 = false ∧
        t.entryAt 0 = some (entry w st (some (.loc .home)) none .checked) ∧
        t.aif.ops = [{ kind := k, phys := 5, line := 5, issuer := .engine 0 }])
    ok (.demandRead .p1 3) .reading (.readLine true) = true ∧ ok partialWork .reading (.readLine true) = true ∧
    ok (.copyRead 4) .reading (.readLine true) = true ∧ ok .patrol .reading (.readLine true) = true ∧
    ok full .writing (.writeLine { written := .data 0xFF, errs := 0 }) = true ∧
    (partialWork ≠ full ∧ (1 : ByteMask) ≠ BitVec.allOnes 64) ∧
    (after (.entryIssue 0) (due (.demandRead .p1 3) .unchecked base)).aif.ops.map (fun o => o.kind) =
      [.readLine false] := by decide +kernel
/-- The place of a line in each remap state (R21). -/
theorem test_witness_EntryIssuesAtTheArray_lookup :
    let s : RemapState → Bool → State := fun rs v => copying (item .move false) rs
      { CopyUnit.reset with buffer := { data := 0, poison := false, valid := v } } [] base
    (∀ x ∈ [RemapState.active 3 1, .copying 2, .moving 3 2 1, .releasing 3 1], ((s x true).entryOf 5).map (fun e => e.state) = some x) ∧
    ((s (.copying 2) true).entryOf 6 = none ∧ (s (.copying 2) true).lookup 6 = .loc .home) ∧
    (s (.active 3 1) true).lookup 5 = .loc (.spare 3) ∧
    ((s (.copying 2) true).lookup 5 = .copyBuffer ∧ (s (.copying 2) false).lookup 5 = .loc .home) ∧
    ((s (.moving 3 2 1) true).lookup 5 = .copyBuffer ∧ (s (.moving 3 2 1) false).lookup 5 = .loc (.spare 3)) ∧
    ((s (.releasing 3 1) true).lookup 5 = .copyBuffer ∧ (s (.releasing 3 1) false).lookup 5 = .loc (.spare 3)) ∧
    (s (.copying 2) true).copyDest 5 = .spare 2 ∧ (s (.moving 3 2 1) true).copyDest 5 = .spare 2 ∧
    (s (.releasing 3 1) true).copyDest 5 = .home := by decide +kernel
/-- A full write that issues with an injection of two bits armed for its line stores it and disarms it; one armed for
another line stays; an entry at a spare works at its physical line. -/
theorem test_issue_with_injection :
    let full : Work := .demandWrite .p1 3 (BitVec.allOnes 64) 0xFF
    let s : Nat → State := fun l =>
      let d := due full .checked base
      { d with aif := { d.aif with injection := some { line := l, word := 3, bits := 2 } } }
    ((after (.entryIssue 0) (s 5)).aif.injection = none ∧
      (after (.entryIssue 0) (s 5)).aif.ops.map (fun o => o.kind) =
        [.writeLine { written := .data 0xFF, errs := 3 <<< 216 }]) ∧
    ((after (.entryIssue 0) (s 6)).aif.injection = some { line := 6, word := 3, bits := 2 } ∧
      (after (.entryIssue 0) (s 6)).aif.ops.map (fun o => o.kind) = [.writeLine { written := .data 0xFF, errs := 0 }]) ∧
    (after (.entryIssue 0) (due .patrol .checked (copying (item .move false) (.active 3 1) .reset [] base))).aif.ops.map (fun o => o.phys) = [spareLine 3] := by decide +kernel
theorem test_witness_EntryServedAtIssue :
    let s : Bool → State := fun p => due (.demandRead .p1 3) .checked (buffered p false)
    let pu := (patrolling .background .reading .writePoison storedPoison).patrol
    let q := due .patrol .checked { buffered false false with patrol := pu }
    (∀ p ∈ [false, true], (s p).lookup 5 = .copyBuffer ∧ (s p).copy.buffer.poison = p ∧ (s p).ctl.state = .running ∧
      (after (.entryIssue 0) (s p)).entryAt 0 = none) ∧
    (after (.entryIssue 0) (s false)).responses =
      [{ port := .p1, tag := 3, status := .ok, data := some 0x77, mask := 0 }] ∧
    ((after (.entryIssue 0) (s true)).responses =
        [{ port := .p1, tag := 3, status := .poisoned, data := some 0, mask := 0 }] ∧
      (after (.entryIssue 0) (s true)).counters.poison = 1) ∧
    (q.lineCopying 5 = true ∧ (after (.entryIssue 0) q).entryAt 0 = none ∧
      (after (.entryIssue 0) q).counters.patrolSkipped = 1 ∧
      (after (.entryIssue 0) q).patrol.state = .waiting) := by decide +kernel
theorem test_witness_CopyBufferTakesWrites :
    let full : Work := .demandWrite .p1 3 (BitVec.allOnes 64) 0xFF
    let s : Bool → Bool → Work → State := fun poison hold w => due w .checked (buffered poison hold)
    let t : Bool → Bool → Work → State := fun poison hold w => after (.entryIssue 0) (s poison hold w)
    (∀ p ∈ [false, true], ∀ h ∈ [false, true], (s p h partialWork).lookup 5 = .copyBuffer ∧
      (s p h partialWork).ctl.state = .running) ∧
    ((t false true partialWork).entryAt 0).map (fun e => e.state) = some (.blocked .copyHold) ∧
    ((t true false partialWork).entryAt 0 = none ∧
      (t true false partialWork).responses.map (fun r => r.status) = [.poisoned]) ∧
    ((t false false partialWork).copy.buffer = { data := 0xFF, poison := false, valid := true } ∧
      (t false false partialWork).copy.dirty = true ∧
      (t false false partialWork).aif.ops = [
        { kind := .writeLine { written := .data 0xFF, errs := 0 }, phys := 5, line := 5, issuer := .engine 0 }]) ∧
    ((t true false full).copy.buffer.poison = false ∧
      ((t true false full).entryAt 0).map (fun e => e.place) = some (some .copyBuffer)) := by decide +kernel

/-! ## The Line Engine: completions -/

/-- Slot 0 of the opened state is as a completion needs it, with the read's outcome. -/
def readsAs (s : State) (w : Work) (o : LineOutcome) : Bool :=
  completes s w .reading (some (.loc .home)) none (.readLine true) && decide ((s.opened.decodedRead 5).outcome = o)

theorem test_witness_DemandReadAnsweredOk :
    let w : Work := .demandRead .p1 3
    let a : State → List Response := fun s => (after (.demandReadComplete 0) s).responses
    readsAs (reading .checked (stored 0)) w .clean = true ∧
    completes (reading .unchecked (stored 3)) w .reading (some (.loc .home)) none (.readLine false) = true ∧
    a (reading .checked (stored 0)) = [{ port := .p1, tag := 3, status := .ok, data := some 0x1234, mask := 0 }] ∧
    a (reading .unchecked (stored 3)) = [{ port := .p1, tag := 3, status := .ok, data := some 0x1237, mask := 0 }] ∧
    a (reading .unchecked storedPoison) = [{ port := .p1, tag := 3, status := .ok, data := some 0, mask := 0 }] ∧
    (after (.demandReadComplete 0) (reading .checked (stored 0))).olt = .empty := by decide +kernel
theorem test_witness_DemandReadCorrected :
    let s := reading .checked (stored 1)
    let p := policies true false false true s
    let t := after (.demandReadComplete 0) s
    let q := after (.demandReadComplete 0) p
    readsAs s (.demandRead .p1 3) .corrected = true ∧ readsAs p (.demandRead .p1 3) .corrected = true ∧
    t.responses = [{ port := .p1, tag := 3, status := .corrected, data := some 0x1234, mask := 1 }] ∧
    t.erq.records = [correctedRecord (.port .p1) 5 .home 1] ∧ t.counters.corrected = 1 ∧
    t.suspects.entries = [{ line := 5, place := .home, count := 1, mask := 1, waiting := false }] ∧
    t.olt = .empty ∧ t.aif.ops = [] ∧
    (q.entryAt 0).map (fun e => e.state) = some .writeback ∧
    q.aif.ops.map (fun o => o.kind) = [.writeLine { written := .data 0x1234, errs := 0 }] := by decide +kernel
theorem test_witness_DemandReadUncorrectable :
    let s := reading .checked (stored 3)
    let t := after (.demandReadComplete 0) s
    let h := after (.demandReadComplete 0) (policies false true true true s)
    readsAs s (.demandRead .p1 3) .uncorrectable = true ∧
    t.responses = [{ port := .p1, tag := 3, status := .dataError, data := some 0x1237, mask := 0 }] ∧
    t.counters.uncorrectable = 1 ∧ t.ctl.state = .running ∧ t.rtq = [] ∧
    h.ctl = { state := .halted, haltReason := .ueOnDemand, initProgress := 1048448 } ∧
    h.rtq.map (fun i => i.origin) = [.uePolicy] ∧
    h.erq.records.map (fun r => r.kind) = [.uncorrectable, .halted] := by decide +kernel
theorem test_witness_PoisonedLineAnswersPoisoned :
    let s := reading .checked storedPoison
    let v := writing partialWork .reading (.loc .home) none (.readLine true) storedPoison
    readsAs s (.demandRead .p1 3) .poisoned = true ∧ readsAs v partialWork .poisoned = true ∧
    (after (.demandReadComplete 0) s).responses =
      [{ port := .p1, tag := 3, status := .poisoned, data := some 0, mask := 0 }] ∧
    (after (.partialWriteReadComplete 0) v).responses =
      [{ port := .p1, tag := 3, status := .poisoned, data := none, mask := 0 }] ∧
    (after (.partialWriteReadComplete 0) v).aif.ops = [] ∧ (after (.partialWriteReadComplete 0) v).counters.poison = 1 ∧
    (after (.partialWriteReadComplete 0) v).olt = .empty := by decide +kernel

/-- The write that follows a partial write's read of stored contents. -/
def partialOps (decoded : Bool) (l : StoredLine) : List ArrayOpKind × Option (Option EntryResult) :=
  let t := after (.partialWriteReadComplete 0) (writing partialWork .reading (.loc .home) none (.readLine decoded) l)
  (t.aif.ops.map (fun o => o.kind), (t.entryAt 0).map (fun e => e.result))

theorem test_witness_PartialWriteMerges :
    let s : StoredLine → State := fun l => writing partialWork .reading (.loc .home) none (.readLine true) l
    let r : State := writing partialWork .reading (.loc .home) none (.readLine false) (stored 3)
    readsAs (s (stored 0)) partialWork .clean = true ∧ readsAs (s (stored 1)) partialWork .corrected = true ∧
    completes r partialWork .reading (some (.loc .home)) none (.readLine false) = true ∧
    partialOps true (stored 0) = ([.writeLine { written := .data 0x12FF, errs := 0 }],
      some (some { outcome := .clean, corrected := 0 })) ∧
    partialOps true (stored 1) = ([.writeLine { written := .data 0x12FF, errs := 0 }],
      some (some { outcome := .corrected, corrected := 1 })) ∧
    partialOps false (stored 0x300) = ([.writeLine { written := .data 0x11FF, errs := 0 }], some none) := by
  decide +kernel
theorem test_witness_PartialWritePoisonsUncorrectable :
    readsAs (writing partialWork .reading (.loc .home) none (.readLine true) (stored 3)) partialWork .uncorrectable = true ∧
    partialOps true (stored 3) = ([.writePoison], some (some { outcome := .uncorrectable, corrected := 0 })) := by
  decide +kernel

/-- A write about to complete at its place, with its read result. -/
def written (place : Place) (res : Option EntryResult) (k : ArrayOpKind) : State :=
  writing partialWork .writing place res k (stored 0)

theorem test_witness_WriteCompletions :
    let wr : ArrayOpKind := .writeLine { written := .data 0xFF, errs := 0 }
    let clean : EntryResult := { outcome := .clean, corrected := 0 }
    let corr : EntryResult := { outcome := .corrected, corrected := 1 }
    let wb := withOp wr (.engine 0) 5 (stored 0)
      (withEntry (entry (.demandRead .p1 3) .writeback (some (.loc .home)) (some corr) .checked) base)
    let a : Instr → State → List (RespStatus × WordMask) := fun i s =>
      (after i s).responses.map (fun r => (r.status, r.mask))
    (∀ res ∈ [none, some clean, some corr],
      completes (written (.loc .home) res wr) partialWork .writing (some (.loc .home)) res wr = true) ∧
    completes (written .copyBuffer none wr) partialWork .writing (some .copyBuffer) none wr = true ∧
    completes wb (.demandRead .p1 3) .writeback (some (.loc .home)) (some corr) wr = true ∧
    a (.demandWriteComplete 0) (written (.loc .home) none wr) = [(.ok, 0)] ∧
    a (.demandWriteComplete 0) (written (.loc .home) (some clean) wr) = [(.ok, 0)] ∧
    a (.demandWriteComplete 0) (written (.loc .home) (some corr) wr) = [(.corrected, 1)] ∧
    a (.sourceWriteComplete 0) (written .copyBuffer none wr) = [(.ok, 0)] ∧
    a (.writebackComplete 0) wb = [] ∧ (after (.writebackComplete 0) wb).olt = .empty ∧
    (after (.demandWriteComplete 0) (written (.loc .home) none wr)).aif.mem =
      [(5, { written := .data 0xFF, errs := 0 })] := by decide +kernel
/-- A row that does not name what is outstanding changes nothing (log entry 2). -/
theorem test_other_rows_change_nothing :
    let s := written (.loc .home) none .writePoison
    after (.sourceWriteComplete 0) s = s ∧ after (.rmwPoisonWriteComplete 0) s = s ∧ after (.writebackComplete 0) s = s ∧
    after (.demandReadComplete 0) s = s ∧ after (.demandWriteComplete 1) s = s ∧ after .verifyComplete s = s := by
  decide +kernel
theorem test_witness_PoisonWriteAnswersDataError :
    let s := written (.loc .home) (some { outcome := .uncorrectable, corrected := 2 }) .writePoison
    let t := after (.rmwPoisonWriteComplete 0) s
    completes s partialWork .writing (some (.loc .home)) (some { outcome := .uncorrectable, corrected := 2 })
      .writePoison = true ∧
    t.responses = [{ port := .p1, tag := 3, status := .dataError, data := none, mask := 2 }] ∧
    t.aif.mem = [(5, storedPoison)] ∧ t.olt = .empty ∧
    (after (.rmwPoisonWriteComplete 0) (policies false false true true s)).ctl.state = .halted := by decide +kernel
/-- After the PATROL entry has left: the background rests by its mode; a scrub steps on, or ends. -/
theorem test_witness_PatrolCompletions_steps :
    let p : PatrolMode → Activity → Nat → Nat → State := fun m a c l => { base with
      patrol := { PatrolUnit.reset with
        state := .inFlight, mode := m, activity := a, cursor := 6, candidate := some { line := 5, owner := a }
        scrub := if a = .scrub then some { first := 1, last := l, cursor := c } else none } }
    let t : State → PatrolUnit := fun s => s.patrolEntryRemoved.patrol
    ((t (p .off .background 0 0)).state = .off ∧ (t (p .single .background 0 0)).state = .waiting ∧
      (t (p .single .background 0 0)).timer = some 100) ∧
    ((p .off .scrub 6 9).regionsApart ∧ (t (p .off .scrub 6 9)).candidate = some { line := 6, owner := .scrub } ∧
      (t (p .off .scrub 9 9)).scrub = some { first := 1, last := 9, cursor := 10 }) ∧
    ((t (p .off .scrub 10 9)) = { PatrolUnit.reset with cursor := 6 } ∧
      (t (p .continuous .scrub 0x1000 0x1000)).state = .waiting ∧
      (p .continuous .scrub 0x1000 0x1000).patrolEntryRemoved.cmd.result = .done) := by decide +kernel
/-- Line 6 is the lowest CHECKED line from 6, every one from 10 lies above 9, and there is none from 1000h. -/
theorem test_witness_PatrolCompletions_found :
    let found : Nat → Nat → Prop := fun a l => a ≤ l ∧
      ∃ g ∈ base.regions.valid, g.cls = .checked ∧ g.base ≤ l ∧ l ≤ g.limit
    (found 6 6 ∧ ∀ l' < 6, ¬ found 6 l') ∧ (∀ l, found 10 l → 9 < l) ∧ ∀ l, ¬ found 0x1000 l := by
  have h : base.regions.valid = [region .checked false true 15 15] := by decide +kernel
  simp only [h, region, List.mem_singleton, exists_eq_left]
  exact ⟨by decide, by omega, by omega⟩
theorem test_witness_PatrolCompletions :
    let s : StoredLine → State := fun l => patrolling .background .reading (.readLine true) l
    let t : State → State := fun s => after (.patrolReadComplete 0) s
    let w := patrolling .scrub .writeback .writePoison (stored 0)
    (readsAs (s (stored 0)) .patrol .clean = true ∧ readsAs (s storedPoison) .patrol .poisoned = true ∧
      readsAs (s (stored 1)) .patrol .corrected = true ∧ readsAs (s (stored 3)) .patrol .uncorrectable = true ∧
      completes w .patrol .writeback (some (.loc .home)) none .writePoison = true) ∧
    ((t (s (stored 0))).patrol.state = .waiting ∧ (t (s (stored 0))).counters.patrolLines = 1) ∧
    ((t (s storedPoison)).counters.poisonSeen = 1 ∧ (t (s storedPoison)).olt = .empty) ∧
    ((t (s (stored 1))).aif.ops.map (fun o => o.kind) = [.writeLine (stored 0)] ∧
      (t (s (stored 1))).erq.records.map (fun r => r.source) = [.patrol]) ∧
    ((t (s (stored 3))).aif.ops.map (fun o => o.kind) = [.writePoison] ∧
      (t (policies false true true false (s (stored 3)))).olt = .empty ∧
      (t (policies false true true false (s (stored 3)))).ctl.state = .running ∧
      (t (patrolling .scrub .reading (.readLine true) (stored 3))).erq.records.map (fun r => r.source) = [.scrub]) ∧
    ((after (.scrubWriteComplete 0) w).olt = .empty ∧ (after (.scrubWriteComplete 0) w).patrol.state = .waiting ∧
      (after (.scrubWriteComplete 0) w).aif.mem = [(5, storedPoison)]) := by decide +kernel

/-! ## The Copy Unit -/

/-- The Copy Unit's copy read of line 5 completes on stored contents, with a waiter in slot 1 behind it. -/
def copyReading (decoded : Bool) (n : BitVec 16) (l : StoredLine) : State :=
  let s := withOp (.readLine decoded) (.engine 0) 5 l (wantsCopy base)
  { s with olt := {
      slots := some (entry (.copyRead n) .reading (some (.loc .home)) none .checked) ::
        some (entry partialWork (.blocked (.entry 0)) none none .checked) :: List.replicate 6 none
      order := [0, 1] } }

theorem test_witness_CopyReadFillsTheBuffer :
    let t : Bool → Bool → StoredLine → State := fun first decoded l =>
      after (.copyReadComplete 0 first) (copyReading decoded 4 l)
    let r : StoredLine → LineOutcome → Bool := fun l o =>
      let s := copyReading true 4 l
      completes s (.copyRead 4) .reading (some (.loc .home)) none (.readLine true) &&
        decide (s.opened.copy.state = .readSource ∧ s.opened.copy.item = some (item .move false) ∧
          s.opened.copy.itemNo = 4 ∧ (s.opened.decodedRead 5).outcome = o)
    (r (stored 0) .clean = true ∧ r (stored 1) .corrected = true ∧ r (stored 3) .uncorrectable = true ∧
      r storedPoison .poisoned = true) ∧
    completes (copyReading false 4 (stored 3)) (.copyRead 4) .reading (some (.loc .home)) none (.readLine false) = true ∧
    (∀ l ∈ [stored 0, stored 1], (t false true l).copy.buffer = { data := 0x1234, poison := false, valid := true }) ∧
    ((t false true (stored 3)).copy.buffer = { data := 0x1237, poison := true, valid := true } ∧
      (t false true (stored 3)).counters.uncorrectable = 1) ∧
    (t false true storedPoison).copy.buffer.poison = true ∧
    (t false false (stored 3)).copy.buffer = { data := 0x1237, poison := false, valid := true } ∧
    ((t false true storedPoison).aif.ops.map (fun o => (o.kind, o.phys)) = [(.writePoison, spareLine 2)] ∧
      (t false true (stored 0)).copy.expected = some .clean ∧ (t false true storedPoison).copy.expected = some .poisoned) ∧
    -- The waiter is merged before the target write is issued, or its turn comes after it (R62).
    ((t true true (stored 0)).aif.ops.map (fun o => o.phys) = [5, spareLine 2] ∧
      (t true true (stored 0)).copy.buffer.data = 0x12FF ∧ (t true true (stored 0)).copy.dirty = false) ∧
    ((t false true (stored 0)).aif.ops.map (fun o => o.phys) = [spareLine 2] ∧
      ((t false true (stored 0)).entryAt 1).map (fun e => e.state) = some (.blocked .turn)) := by decide +kernel
theorem test_witness_TargetWriteAndLateCompletions :
    let s := withOp (.writeLine (stored 0)) (.copyUnit 4) (spareLine 2) (stored 3)
      (copying (item .move false) (.copying 2) (unit .writeTarget false false false 0 1 .clean) [(2, .held)] base)
    let e := copyReading true 3 (stored 1)
    let a := withOp .writePoison (.copyUnit 3) (spareLine 2) (stored 0) base
    (s.opened.copy.state = .writeTarget ∧ s.opened.copy.item = some (item .move false) ∧
      (s.opened.copyOp false).map (fun o => o.phys) = some (spareLine 2)) ∧
    ((after .targetWriteComplete s).copy.state = .verify ∧
      (after .targetWriteComplete s).aif.ops =
        [{ kind := .readLine true, phys := spareLine 2, line := 5, issuer := .copyUnit 4 }] ∧
      (after .targetWriteComplete s).aif.mem = [(spareLine 2, stored 0)]) ∧
    (completes e (.copyRead 3) .reading (some (.loc .home)) none (.readLine true) = true ∧ (3 : BitVec 16) ≠ 4 ∧
      (after (.lateCompletion (.entry 0)) e).entryAt 0 = none ∧ (after (.lateCompletion (.entry 0)) e).copy = e.copy) ∧
    (a.opened.copy.state = .idle ∧ (a.opened.headOp (spareLine 2)).map (fun o => o.issuer) = some (.copyUnit 3) ∧
      (after (.lateCompletion (.array (spareLine 2))) a).aif.ops = [] ∧
      (after (.lateCompletion (.array (spareLine 2))) a).aif.mem = [(spareLine 2, storedPoison)]) := by decide +kernel

/-- Spares 1 and 2 are HELD. -/
def held12 : List (Nat × SpareState) := [(1, .held), (2, .held)]

/-- The spares of the states a verify can be of. -/
def verifyOf (i : RetireItem) (rs : RemapState) (c : CopyUnit) (l : StoredLine) : State :=
  let held := match rs with
    | .active _ _ => []
    | .copying _ => [(2, SpareState.held)]
    | .moving _ _ _ => held12
    | .releasing _ _ => [(1, SpareState.held)]
  verifying i rs c held (match rs with | .releasing _ _ => 5 | _ => spareLine 2) l

theorem test_witness_VerifyCommits :
    let c : Expected → CopyUnit := fun x => unit .verify (decide (x = .poisoned)) false false 0 1 x
    let s1 := verifyOf (item .move true) (.copying 2) (c .clean) (stored 0)
    let s2 := verifyOf (item .move false) (.moving 1 2 255) (c .poisoned) storedPoison
    let s3 := verifyOf (item .release false) (.releasing 1 6) (c .clean) (stored 0)
    let t : State → State := after .verifyComplete
    (verifies s1 .clean (.copying 2) = true ∧ verifies s2 .poisoned (.moving 1 2 255) = true ∧
      verifies s3 .clean (.releasing 1 6) = true ∧ ∀ s ∈ [s1, s2, s3], s.opened.copy.dirty = false) ∧
    (((t s1).entryOf 5).map (fun e => e.state) = some (.active 2 1) ∧ (t s1).cmd.result = .done ∧
      (t s1).erq.records.map (fun r => r.detail) = [some (.poisonedFlag false)] ∧ (t s1).lrt.gen = 8 ∧
      (t s1).counters.retired = 1) ∧
    (((t s2).entryOf 5).map (fun e => e.state) = some (.active 2 255) ∧ (t s2).pool.get 1 = .free ∧
      (t s2).pool.get 2 = .held ∧ (t s2).erq.records.map (fun r => r.detail) = [some (.poisonedFlag true)]) ∧
    ((t s3).entryOf 5 = none ∧ (t s3).pool.get 1 = .free ∧
      (t s3).erq.records.map (fun r => (r.kind, r.place)) = [(.released, some .home)] ∧ (t s3).copy.state = .idle) := by
  decide +kernel
/-- The end of an item frees the entry that waits on the hold and no other. -/
theorem test_release_of_the_hold :
    let e : EntryState → OpenEntry := fun st => entry partialWork st none none .checked
    releaseHold (some (e (.blocked .copyHold))) = some (e (.blocked .turn)) ∧
    releaseHold (some (e (.blocked (.entry 3)))) = some (e (.blocked (.entry 3))) ∧
    releaseHold (some (e .reading)) = some (e .reading) ∧ releaseHold none = none := by decide +kernel
theorem test_witness_VerifyRewritesWhileDirty :
    let s : Nat → State := fun n =>
      verifyOf (item .move false) (.copying 2) (unit .verify false true false n 1 .clean) (stored 0)
    let t : Nat → State := fun n => after .verifyComplete (s n)
    (∀ n ∈ [0, 3, 4], verifies (s n) .clean (.copying 2) = true ∧ (s n).opened.copy.dirty = true ∧
      (s n).opened.copy.rewrites = some n) ∧
    ((t 3).copy.rewrites = some 4 ∧ (t 3).copy.hold = false ∧ (t 3).copy.dirty = false) ∧
    ((t 4).copy.rewrites = some 4 ∧ (t 4).copy.hold = true ∧ (t 4).copy.state = .writeTarget) := by decide +kernel
theorem test_witness_VerifyFailureRetriesOrAborts :
    let c : Nat → CopyUnit := fun n => unit .verify false false false 0 n .clean
    let s : RemapState → Nat → State := fun rs n => verifyOf (item .move true) rs (c n) (stored 1)
    let dry : RemapState → State := fun rs =>
      verifying (item .move true) rs (c 2) (noFree (rs.refs)) (spareLine 2) (stored 1)
    let r := verifyOf (item .release true) (.releasing 1 6) (c 1) (stored 1)
    let t : State → State := after .verifyComplete
    let st : State → Option RemapState × CmdResult × List RecordKind := fun x =>
      let y := t x
      ((y.entryOf 5).map (fun e => e.state), y.cmd.result, y.erq.records.map (fun q => q.kind))
    (∀ rs ∈ [RemapState.copying 2, .moving 1 2 6],
      (∀ n ∈ [2, 3], verifies (s rs n) .corrected rs = true ∧ (s rs n).opened.copy.attempts = some n) ∧
      ((s rs 2).opened.pool.lowestFree = some 0 ∧ verifies (dry rs) .corrected rs = true ∧
        (dry rs).opened.pool.lowestFree = none)) ∧
    verifies r .corrected (.releasing 1 6) = true ∧
    (st (s (.copying 2) 2) = (some (.copying 0), .none, [.spareBad]) ∧
      (t (s (.copying 2) 2)).copy.attempts = some 3 ∧ (t (s (.copying 2) 2)).pool.get 2 = .bad ∧
      (t (s (.copying 2) 2)).aif.ops.map (fun o => o.phys) = [spareLine 0]) ∧
    st (s (.moving 1 2 6) 2) = (some (.moving 1 0 6), .none, [.spareBad]) ∧
    st (s (.copying 2) 3) = (none, .failed, [.spareBad, .retireFailed]) ∧
    st (s (.moving 1 2 6) 3) = (some (.active 1 6), .failed, [.spareBad, .retireFailed]) ∧
    st (dry (.copying 2)) = (none, .noSpare, [.spareBad, .spareExhausted]) ∧
    st (dry (.moving 1 2 6)) = (some (.active 1 6), .noSpare, [.spareBad, .spareExhausted]) ∧
    st r = (some (.active 1 6), .failed, [.releaseFailed]) := by decide +kernel

/-- A device whose Copy Unit is IDLE, with one item and maybe an ACTIVE entry of its line. -/
def starting (i : RetireItem) (e : Option RemapState) (spares : List (Nat × SpareState)) : State :=
  let s := match e with
    | some rs => copying i rs .reset spares base
    | none => { base with pool := { spares := spareStates spares, lowLevel := 127 } }
  { s with copy := .reset, rtq := [i] }

theorem test_witness_ItemStarts :
    let t : State → State := after .itemStart
    let a := starting (item .move false) none []
    let b := starting (item .move false) (some (.active 0 6)) [(0, .held)]
    let c := starting (item .move true) none (noFree [])
    let d := starting (item .release false) (some (.active 0 6)) [(0, .held)]
    let e := starting (item .release true) none []
    (∀ s ∈ [a, b, c, d, e],
      let u : State := ({ s with responses := [] } : State).settleIssues
      u.copy.state = .idle ∧ u.ctl.state = .running ∧ u.rtq.length = 1) ∧
    (a.entryOf 5 = none ∧ a.pool.lowestFree = some 0 ∧ b.pool.lowestFree = some 1 ∧ c.pool.lowestFree = none) ∧
    (((t a).entryOf 5).map (fun x => x.state) = some (.copying 0) ∧ (t a).irq.latched.sparesLow = true ∧
      (t a).copy.state = .readSource ∧ (t a).copy.itemNo = 1) ∧
    (((t b).entryOf 5).map (fun x => x.state) = some (.moving 0 1 6) ∧ (t b).pool.get 1 = .held) ∧
    ((t c).cmd.result = .noSpare ∧ (t c).copy.state = .idle ∧ (t c).counters.retireFailed = 1) ∧
    ((t d).entryOf 5).map (fun x => x.state) = some (.releasing 0 6) ∧
    ((t e).cmd.result = .notRemapped ∧ (t e).rtq = [] ∧ (t e).lrt = State.reset.lrt) := by decide +kernel

/-- The crossing test of SPARES_LOW at its limits, and the slots a new and a changed entry take. -/
theorem test_witness_ItemStarts_shared :
    let u : Nat → State := fun n => { base with
      pool := { spares := List.replicate n .free ++ List.replicate (128 - n) .bad, lowLevel := 8 } }
    let e : Nat → RemapEntry := fun l => { line := l, state := .copying 2, origin := .command }
    ((u 8).pool.count .free = 8 ∧ ((u 8).noteCrossing 9).irq.latched.sparesLow = true ∧ (u 8).noteCrossing 8 = u 8 ∧
      (u 9).noteCrossing 10 = u 9) ∧
    fillLowest [some (e 5), none, none] (e 6) = [some (e 5), some (e 6), none] ∧
    replaceEntry [some (e 5), none, some (e 6)] 6 none = [some (e 5), none, none] := by decide +kernel

/-! ## Suspects, records and policies -/

/-- A suspect. -/
def sus (line count : Nat) (waiting : Bool) : Suspect :=
  { line := line, place := .home, count := count, mask := 1, waiting := waiting }

/-- With suspects and a threshold. -/
def withSuspects (es : List Suspect) (n : Nat) (s : State) : State := { s with suspects := { entries := es, threshold := n } }

/-- With n items in the Retirement Queue, of lines from 100h. -/
def queueOf (n : Nat) (s : State) : State :=
  withItems ((List.range n).map (fun k => { line := 0x100 + k, action := .move, origin := .suspect, command := false })) s

theorem test_witness_SuspectUpdates :
    let t : State → State := fun s => s.suspectUpdate 5 .home 6
    let es : State → List (Nat × Nat × Bool) := fun s =>
      (t s).suspects.entries.map (fun e => (e.line, e.count, e.waiting))
    let sixteen : List Suspect := sus 20 2 true :: sus 21 3 false :: sus 22 1 false :: sus 23 1 false ::
      (List.range 12).map (fun k => sus (30 + k) 2 false)
    (buffered false false).lineCopying 5 = true ∧ t (buffered false false) = buffered false false ∧
    base.lineCopying 5 = false ∧
    es (withSuspects [sus 5 4 true, sus 6 1 false] 4 base) = [(6, 1, false), (5, 4, true)] ∧
    es (withSuspects [sus 5 2 false, sus 6 1 false] 4 base) = [(6, 1, false), (5, 3, false)] ∧
    (es (withSuspects [sus 5 3 false, sus 6 1 false] 4 base) = [(6, 1, false)] ∧
      (t (withSuspects [sus 5 3 false] 4 base)).rtq = [suspectItem 5]) ∧
    (es (withSuspects [{ sus 5 3 false with place := .spare 1 }] 4 base) = [(5, 1, false)] ∧
      (t (withSuspects [{ sus 5 3 false with place := .spare 1 }] 4 base)).suspects.entries.map (fun e => e.mask) = [6]) ∧
    (es (withSuspects [sus 6 1 false] 4 base) = [(6, 1, false), (5, 1, false)] ∧ es (withSuspects [] 1 base) = [] ∧
      (t (withSuspects [] 1 base)).rtq = [suspectItem 5]) ∧
    ((List.range 16).map (fun k => sus (30 + k) 4 true)).length = 16 ∧
    (t (withSuspects ((List.range 16).map (fun k => sus (30 + k) 4 true)) 4 base)).counters.suspectDrop = 1 ∧
    (sixteen.length = 16 ∧ (sixteen.map (fun e => e.line)).Nodup ∧
      (t (withSuspects sixteen 4 base)).suspects.entries = sixteen.erase (sus 22 1 false) ++ [freshSuspect 5 .home 6] ∧
      (t (withSuspects sixteen 4 base)).counters.suspectEvict = 1) := by decide +kernel
theorem test_witness_NominationAnswers :
    let s : Nat → State := fun n => queueOf n (withSuspects [sus 5 4 false] 4 base)
    (((s 8).nominate 5).suspects.entries = [sus 5 4 true] ∧ ((s 8).nominate 5).rtq = (s 8).rtq ∧ (s 8).rtq.length = 8 ∧
      ∀ i ∈ (s 8).rtq, i.line ≠ 5) ∧
    (((s 7).nominate 5).suspects.entries = [] ∧ ((s 7).nominate 5).rtq = (s 7).rtq ++ [suspectItem 5]) ∧
    ((withItems [item .release true] (s 0)).nominate 5).suspects.entries = [] ∧
    ((withItems [item .release true] (s 0)).nominate 5).rtq = [item .release true] ∧
    ((withSuspects [sus 5 4 false] 4 (buffered false false)).nominate 5).suspects.entries = [] := by decide +kernel

/-- Re-offers: none waits; the head is pending and leaves; the next is accepted and ends them; a full queue ends them. -/
theorem test_witness_NominationAnswers_reoffer :
    let s : List Suspect → Nat → State := fun es n => queueOf n (withSuspects es 4 base)
    let d := s [sus 6 1 false, sus 0x100 4 true, sus 7 4 true, sus 8 4 true] 7
    (s [sus 5 3 false] 2).reoffer = s [sus 5 3 false] 2 ∧
    (d.suspects.entries.map (fun e => e.line)).Nodup ∧
    (d.reoffer.suspects.entries = [sus 6 1 false, sus 8 4 true] ∧ d.reoffer.rtq = d.rtq ++ [suspectItem 7]) ∧
    (s [sus 5 4 true] 8).reoffer = s [sus 5 4 true] 8 ∧
    ((buffered false false).lineCopying 5 = true ∧
      (withSuspects [sus 5 4 true] 4 (buffered false false)).reoffer.suspects.entries = []) := by decide +kernel

/-- With a command in progress. -/
def inProgress (c : Command) (s : State) : State :=
  { s with cmd := { s.cmd with running := some { command := c, arg0 := 0, arg1 := 0, arg2 := 0 } } }

/-- A record of one kind. -/
def rec (k : RecordKind) (line : Nat) : Record := { Record.blank k .patrol with line := some line }

/-- With records in the Error Record Queue. -/
def withRecords (rs : List Record) (s : State) : State := { s with erq := { records := rs, nextSeq := 9 } }

theorem test_witness_RecordOffers :
    let c : Nat → Record := fun n => { correctedRecord .patrol 5 .home 1 with repeats := some n }
    let s : List Record → State := fun rs => withRecords rs base
    let minors : List Record := rec .uncorrectable 1 :: rec .accessDenied 2 :: rec .sweepDone 3 ::
      List.replicate 29 (rec .retired 4)
    let majors : List Record := List.replicate 32 (rec .retired 4)
    let r : Record := { rec .poisonHit 7 with seq := 9 }
    (((s [rec .retired 4, c 254]).offer { c 1 with mask := some 8 }).erq.records =
        [rec .retired 4, { c 255 with mask := some 9 }] ∧
      ((s [c 255]).offer (c 1)).erq.records = [c 255]) ∧
    (((s []).offer (c 1)).erq = { records := [{ c 1 with seq := 9 }], nextSeq := 10 } ∧
      ((s [c 1]).offer (rec .poisonHit 7)).irq.latched.major = true ∧
      ((s (minors.take 31)).offer (rec .poisonHit 7)).erq.records = minors.take 31 ++ [r]) ∧
    (minors.length = 32 ∧ ((s minors).offer (rec .accessDenied 7)).erq = (s minors).erq ∧
      ((s minors).offer (rec .accessDenied 7)).counters.lostMinor = 1) ∧
    (((s minors).offer (rec .poisonHit 7)).erq.records =
        (rec .uncorrectable 1 :: rec .accessDenied 2 :: List.replicate 29 (rec .retired 4)) ++ [r] ∧
      ((s minors).offer (rec .poisonHit 7)).irq.latched.lost = true) ∧
    (((s majors).offer (rec .poisonHit 7)).erq = (s majors).erq ∧
      ((s majors).offer (rec .poisonHit 7)).counters.lostMajor = 1 ∧
      ((s majors).offer (rec .poisonHit 7)).irq.latched.major = false) := by decide +kernel

/-- A RUNNING device that copies, with a queued command item, a queued request and a BLOCKED write. -/
def busy : State :=
  let s := onPort [{ req .read with tag := 4 }] (inState .running (buffered false true))
  { s with
    rtq := [{ item .move true with line := 9 }]
    olt := {
      slots := some (entry (.demandRead .p0 1) .reading (some .copyBuffer) none .checked) ::
        some (entry partialWork (.blocked (.entry 0)) none none .checked) :: List.replicate 6 none
      order := [0, 1] }
    aif := { s.aif with ops := [{ kind := .readLine true, phys := 5, line := 5, issuer := .engine 0 }] }
    ports := { s.ports with p0 := { queue := [], tags := [1] }, p1 := { queue := s.ports.p1.queue, tags := [4, 3] } } }

theorem test_witness_PoliciesAfterUncorrectable :
    let on := policies false true true true
    base.policy.retireOnUe = false ∧ base.policy.haltOnUe = false ∧
    ((on (withItems [item .move false] base)).retireOnUe 5).rtq = [item .move false] ∧
    ((on (queueOf 7 base)).retireOnUe 5).rtq.length = 8 ∧
    (((on (queueOf 8 base)).retireOnUe 5).rtq.length = 8 ∧ ((on (queueOf 8 base)).retireOnUe 5).counters.rtqFull = 1) ∧
    (on (inState .stopped base)).haltOnUe 5 = on (inState .stopped base) ∧ (on busy).openSound ∧
    let t := (on busy).haltOnUe 7
    (t.ctl.state = .halted ∧ t.copy.state = .idle ∧ t.entryOf 5 = none ∧ t.pool.get 2 = .free ∧ t.rtq = [] ∧
      t.responses.map (fun r => (r.tag, r.status)) = [(3, .halted), (4, .halted)] ∧ t.ports.p1 = { queue := [], tags := [] } ∧
      (t.entryAt 0).isSome = true ∧ t.entryAt 1 = none ∧ t.cmd.result = .aborted ∧ t.aif = busy.aif) := by decide +kernel

/-- Entry to HALTED, block by block, from a state of every kind of work in flight. -/
theorem test_halt_answers_and_restores :
    let on := policies false true true true
    let t : State → State := fun s => (on s).haltOnUe 7
    let blocked : State := { busy with
      olt := {
        slots := some (entry (.copyRead 4) (.blocked .turn) none none .checked) ::
          some (entry partialWork (.blocked (.entry 0)) none none .checked) ::
          some (entry .patrol (.blocked (.entry 1)) none none .checked) ::
          some { entry (.demandRead .p1 6) (.blocked .turn) none none .checked with line := 8 } :: List.replicate 4 none
        order := [3, 0, 1, 2] }
      aif := { busy.aif with ops := [] }
      ports := { busy.ports with p0 := .empty, p1 := { queue := [{ req (.write 1 0) with tag := 4 }], tags := [6, 4, 3] } } }
    let moving := copying (item .move true) (.moving 1 2 6) (unit .verify false true true 2 3 .clean) held12 base
    let releasing := copying (item .release false) (.releasing 1 6) (unit .verify false false false 0 1 .clean) [(1, .held)] base
    (∀ s ∈ [blocked, busy, moving, releasing], (on s).openSound) ∧
    ((t blocked).responses = [{ port := .p1, tag := 6, status := .halted, data := some 0, mask := 0 },
        { port := .p1, tag := 3, status := .halted, data := none, mask := 0 },
        { port := .p1, tag := 4, status := .halted, data := none, mask := 0 }] ∧
      (t blocked).ports.p1 = { queue := [], tags := [] } ∧ (t blocked).olt.order = [2] ∧
      ((t blocked).entryAt 2).map (fun e => e.work) = some .patrol ∧ (t blocked).entryAt 0 = none) ∧
    ((t busy).entryAt 0 = busy.entryAt 0 ∧ (t busy).ports.p0.tags = [1]) ∧
    (((t moving).entryOf 5).map (fun e => e.state) = some (.active 1 6) ∧ (t moving).pool.get 2 = .free ∧
      (t moving).pool.get 1 = .held ∧ (t moving).lrt.gen = 8 ∧ (t moving).cmd.result = .aborted ∧
      (t moving).irq.latched.cmdDone = true ∧ (t moving).copy.buffer = { data := 0x77, poison := false, valid := false }) ∧
    (((t releasing).entryOf 5).map (fun e => e.state) = some (.active 1 6) ∧ (t releasing).pool.get 1 = .held ∧
      (t releasing).irq.latched.cmdDone = false ∧ (t releasing).cmd = releasing.cmd) := by decide +kernel
/-- The Patrol Unit, the queued items and a STOP in progress at entry to HALTED. -/
theorem test_halt_patrol_queue_and_stop :
    let on := policies false true true true
    let t : State → State := fun s => (on s).haltOnUe 7
    let kept : RetireItem := { item .move false with line := 9 }
    let scrub : State := inProgress .scrub (waited 3 (issuing .scrub base))
    let flying : State := inProgress .scrub { base with patrol := { (issuing .scrub base).patrol with state := .inFlight } }
    let queue : State := withSuspects [sus 5 4 true, sus 9 4 true] 4
      (withItems [kept, { item .release true with line := 5 }, { kept with line := 11 }] base)
    ((t (waited 3 (issuing .background base))).patrol.cursor = 5 ∧
      (t (waited 3 (issuing .background base))).patrol.timer = some 100 ∧
      (t (waited 3 (issuing .background base))).arbiter.patrolWait = 0) ∧
    ((t scrub).patrol = { scrub.patrol with
        state := .waiting, timer := some 100, candidate := none, scrub := none, activity := .background } ∧
      (t scrub).cmd.result = .aborted ∧ (t scrub).cmd.running = none) ∧
    ((t flying).patrol.state = .inFlight ∧ (t flying).patrol.scrub = none) ∧
    ((t queue).rtq = [kept, { kept with line := 11 }, suspectItem 5] ∧ (t queue).suspects.entries = [sus 9 4 true] ∧
      (t queue).cmd.result = .aborted) ∧
    ((t (withItems [kept] base)).rtq = [kept] ∧ (t (withItems [kept] base)).cmd = base.cmd) ∧
    ((t (inProgress .stop (inState .draining base))).cmd.result = .aborted ∧
      (t (inProgress .stop (inState .draining base))).ctl.state = .halted) := by decide +kernel

/-! ## The Patrol Unit -/

/-- A timer about to expire. -/
def expiring (m : PatrolMode) (cursor : Nat) (visited : Bool) (s : State) : State :=
  { s with patrol := { PatrolUnit.reset with
      state := .waiting, mode := m, cursor := cursor, visited := visited, timer := some 100 } }

theorem test_witness_PatrolTimerExpiry :
    let t : State → State := after .patrolTimerExpiry
    let e := expiring .continuous 0x1000 true (withSuspects [sus 5 4 true, sus 6 1 false, sus 7 3 false] 4 base)
    (∀ s ∈ [expiring .continuous 3 false base, e], s.opened.patrol.timer = some 100 ∧ s.opened.regionsApart ∧
      s.opened.ctl.state = .running) ∧
    (t (expiring .continuous 3 false base)).patrol.candidate = some { line := 3, owner := .background } ∧
    (t (expiring .continuous 0xFFF false base)).patrol.cursor = 0x1000 ∧
    ((t (expiring .continuous 0x1000 false base)).patrol.cursor = 0 ∧
      (t (expiring .continuous 0x1000 false base)).patrol.timer = some 100) ∧
    ((t e).patrol.sweep = 1 ∧ (t e).patrol.state = .waiting ∧ (t e).irq.latched.sweep = true ∧
      (t e).suspects.entries = [sus 5 4 true, sus 7 2 false] ∧
      (t (expiring .single 0x1000 true base)).patrol.mode = .off) ∧
    (t (expiring .single 3 true (inState .halted base))).patrol =
      (expiring .single 3 true (inState .halted base)).patrol := by decide +kernel
/-- Line 3 is the lowest line found from cursor 3, and none is found from cursor 1000h. -/
theorem test_witness_PatrolTimerExpiry_found :
    let found : Nat → Nat → Prop := fun cursor l => cursor ≤ l ∧
      ∃ g ∈ base.regions.valid, g.cls = .checked ∧ g.patrol = true ∧ g.base ≤ l ∧ l ≤ g.limit
    (found 3 3 ∧ ∀ l' < 3, ¬ found 3 l') ∧ ∀ l, ¬ found 0x1000 l := by
  have h : base.regions.valid = [region .checked false true 15 15] := by decide +kernel
  simp only [h, region, List.mem_singleton, exists_eq_left]
  exact ⟨by decide, by omega⟩

/-! ## The Controller -/

/-- A device in its fill, with n lines issued. -/
def filling (n : Nat) (ops : List ArrayOp) : State :=
  { base with ctl := { state := .initializing, haltReason := .none, initProgress := n }, aif := { base.aif with ops := ops } }

/-- The fill write of a line. -/
def fillOp (n : Nat) : ArrayOp :=
  { kind := .writeLine { written := .data 0, errs := 0 }, phys := n, line := n, issuer := .controller }

theorem test_witness_InitFill :
    let f := inProgress .init (filling 7 [])
    let w := inProgress .init (filling 9 [fillOp 8])
    let e := inProgress .init (filling 1048448 [])
    (f.opened.ctl.state = .initializing ∧ f.opened.ctl.initProgress < f.opened.aif.size.logical ∧
      (after .fillWriteIssue f).aif.ops = [fillOp 7] ∧ (after .fillWriteIssue f).ctl.initProgress = 8) ∧
    (w.opened.completable (fun o => decide (o.issuer = .controller ∧ o.line = 8)) = some (fillOp 8) ∧
      (after (.fillWriteComplete 8) w).aif.ops = [] ∧
      (after (.fillWriteComplete 8) w).aif.mem = [(8, { written := .data 0, errs := 0 })]) ∧
    ((({ e with responses := [] } : State).settleIssues.settleStarts).ctl.state = .initializing ∧
      (({ e with responses := [] } : State).settleIssues.settleStarts).ctl.initProgress = e.aif.size.logical ∧
      (after .initFillEnd e).ctl.state = .stopped ∧ (after .initFillEnd e).cmd.result = .done ∧
      (after .initFillEnd e).cmd.running = none ∧ (after .initFillEnd e).irq.latched.cmdDone = true) ∧
    after .initFillEnd w = w := by decide +kernel
theorem test_witness_DrainsAndHaltedStopsEnd :
    let d := inProgress .stop (inState .draining base)
    let h := inProgress .stop { base with ctl := { state := .halted, haltReason := .ueOnDemand, initProgress := 7 } }
    let u : State → State := fun s => ({ s with responses := [] } : State).settleIssues.settleStarts
    ((u d).ctl.state = .draining ∧ (u d).olt.slots = List.replicate 8 none ∧ (u d).ports = .empty ∧
      (u d).copy.state = .idle ∧ (u d).patrol.state = .off ∧ (after .drainComplete d).ctl.state = .stopped) ∧
    ((u h).ctl.state = .halted ∧ (u h).runningIs .stop = true ∧ (u h).olt.slots = List.replicate 8 none ∧
      (after .haltedStopComplete h).ctl = { state := .stopped, haltReason := .none, initProgress := 7 } ∧
      (after .haltedStopComplete h).cmd.result = .done) := by decide +kernel

/-! ## Maintenance commands -/

/-- With argument words. -/
def args (a b c : Word32) (s : State) : State := { s with cmd := { s.cmd with arg0 := a, arg1 := b, arg2 := c } }

/-- What a command gives: its result, whether it holds the slot, and the controller state. -/
def gives (i : Instr) (s : State) : CmdResult × Bool × CtlState :=
  let t := after i s
  (t.cmd.result, t.busy, t.ctl.state)

/-- The slot can take a command in the opened state. -/
def free (s : State) : Bool := decide (s.opened.pins = { porst := false, wrst := false } ∧ s.opened.cmd.running = none)

theorem test_witness_InitStartAndStop :
    let s : CtlState → State := fun c => inState c base
    let i := issuing .background base
    let h := withEntry (entry (.demandRead .p1 3) .reading (some (.loc .home)) none .checked) (s .halted)
    let w := onPort [req .read] base
    (∀ c ∈ [CtlState.uninit, .stopped, .running, .halted], free (s c) = true ∧ (s c).opened.ctl.state = c) ∧
    (∀ x ∈ [i, h, w, onPort [req .read] i], free x = true) ∧
    gives .start (s .stopped) = (.done, false, .running) ∧ gives .start (s .running) = (.wrongState, false, .running) ∧
    gives .init (s .uninit) = (.none, true, .initializing) ∧ gives .init (s .stopped) = (.none, true, .initializing) ∧
    gives .init (s .halted) = (.wrongState, false, .halted) ∧
    (base.opened.drained = true ∧ gives .stop base = (.done, false, .stopped)) ∧
    (w.opened.drained = false ∧ gives .stop w = (.none, true, .draining)) ∧
    (i.opened.patrol.state = .issuing ∧ gives .stop i = (.done, false, .stopped) ∧
      (after .stop i).patrol.cursor = 5 ∧ (after .stop i).patrol.state = .waiting ∧
      gives .stop (onPort [req .read] i) = (.none, true, .draining)) ∧
    (gives .stop (s .halted) = (.done, false, .stopped) ∧ gives .stop h = (.none, true, .halted)) ∧
    gives .stop (s .stopped) = (.done, false, .stopped) ∧ gives .stop (s .uninit) = (.wrongState, false, .uninit) := by
  decide +kernel
/-- INIT empties the Suspect List and the Retirement Queue. -/
theorem test_init_clears :
    let t := after .init (queueOf 3 (withSuspects [sus 5 4 true] 4 (inState .stopped base)))
    t.suspects.entries = [] ∧ t.rtq = [] ∧ t.ctl.initProgress = 0 := by decide +kernel

/-- Staged base and limit, for the entry of an index. -/
def staged (n : Word32) (b l : Nat) : State :=
  let s := args n 0 0 base
  { s with regions := { s.regions with stage := { region .unchecked true false 1 2 with base := b, limit := l } } }

theorem test_witness_SetRegionTests :
    (∀ s ∈ [staged 8 0x2000 0x2000, staged 7 0x2001 0x2000, staged 7 0x2000 1048448, staged 7 0xFFF 1048447,
        staged 7 0x1000 1048447, staged 0 0 0], free s = true ∧ s.opened.ctl.state = .running) ∧
    gives .setRegion (staged 8 0x2000 0x2000) = (.badArgument, false, .running) ∧
    gives .setRegion (staged 7 0x2001 0x2000) = (.badArgument, false, .running) ∧
    gives .setRegion (staged 7 0x2000 1048448) = (.badArgument, false, .running) ∧
    (gives .setRegion (staged 7 0xFFF 1048447) = (.overlap, false, .running) ∧
      (after .setRegion (staged 7 0xFFF 1048447)).regions = (staged 7 0xFFF 1048447).regions) ∧
    (gives .setRegion (staged 7 0x1000 1048447) = (.done, false, .running) ∧
      (after .setRegion (staged 7 0x1000 1048447)).regions.entries[7]? = some (some (staged 7 0x1000 1048447).regions.stage)) ∧
    gives .setRegion (staged 0 0 0) = (.done, false, .running) := by decide +kernel
theorem test_witness_ClearRegion :
    let s : Word32 → State := fun n => args n 0 0 base
    (∀ x ∈ [s 0, s 7, s 8], free x = true ∧ x.opened.ctl.state = .running) ∧
    gives .clearRegion (s 8) = (.badArgument, false, .running) ∧ gives .clearRegion (s 7) = (.done, false, .running) ∧
    (after .clearRegion (s 7)).regions = base.regions ∧ (s 7).opened.regions.entries[7]? = some none ∧
    ((after .clearRegion (s 0)).regions.entries = List.replicate 8 none ∧ (s 0).opened.regionsApart ∧
      (s 0).opened.regionOf 5 = some (region .checked false true 15 15) ∧
      (after .clearRegion (s 0)).regionOf 5 = none) := by decide +kernel
theorem test_witness_RetireAndReleaseOffer :
    let s : Word32 → State → State := fun n x => args n 0 0 x
    let r : CmdResult × Bool × CtlState → CmdResult → Bool := fun g c => decide (g = (c, false, .running))
    (∀ x ∈ [s 1048448 base, s 5 base, s 5 (queueOf 8 (wantsCopy base)), s 9 (queueOf 8 (wantsCopy base)),
        s 5 (inState .halted base)], free x = true ∧ x.opened.rtq = x.rtq) ∧
    r (gives .retire (s 1048448 base)) .badArgument = true ∧ r (gives .release (s 1048448 base)) .notRemapped = true ∧
    (gives .retire (s 1048447 base) = (.none, true, .running) ∧ gives .release (s 5 base) = (.none, true, .running) ∧
      (after .release (s 5 base)).rtq = [item .release true]) ∧
    (r (gives .retire (s 5 (wantsCopy base))) .alreadyPending = true ∧
      r (gives .release (s 0x107 (queueOf 8 (wantsCopy base)))) .alreadyPending = true) ∧
    (r (gives .retire (s 9 (queueOf 8 (wantsCopy base)))) .queueFull = true ∧
      r (gives .release (s 9 (queueOf 8 (wantsCopy base)))) .queueFull = true) ∧
    gives .retire (s 5 (inState .halted base)) = (.wrongState, false, .halted) ∧
    gives .release (s 5 (inState .halted base)) = (.wrongState, false, .halted) := by decide +kernel
theorem test_witness_LoadRemapAndMarkSpareBad :
    let st := inState .stopped (copying (item .move false) (.active 3 1) .reset [(3, .held), (4, .bad)] base)
    let s : Word32 → Word32 → State := fun a b => args a b 0 { st with copy := .reset }
    let l : Word32 → Word32 → CmdResult := fun a b => (after .loadRemap (s a b)).cmd.result
    let m : Word32 → CmdResult := fun a => (after .markSpareBad (s a 0)).cmd.result
    let low : State := args 9 127 0 { State.reset with
      pool := { spares := List.replicate 119 .bad ++ List.replicate 9 .free, lowLevel := 8 } }
    (free (s 0 0) = true ∧ free low = true ∧ (s 0 0).opened.ctl.state = .stopped) ∧
    (l 1048448 0 = .badArgument ∧ l 0 128 = .badArgument ∧ l 5 0 = .remapped ∧ l 6 3 = .spareNotFree ∧
      l 6 4 = .spareNotFree ∧ l 1048447 127 = .done) ∧
    (((after .loadRemap (s 6 0)).entryOf 6) = some (restoredEntry 6 0) ∧ (after .loadRemap (s 6 0)).pool.get 0 = .held ∧
      (after .loadRemap (s 6 0)).lrt.gen = 8 ∧ (after .loadRemap low).irq.latched.sparesLow = true) ∧
    (after .loadRemap (inState .running (s 6 0))).cmd.result = .wrongState ∧
    (m 128 = .badArgument ∧ m 127 = .done ∧ m 4 = .done ∧ m 3 = .spareNotFree) ∧
    ((after .markSpareBad (s 127 0)).pool.get 127 = .bad ∧
      (after .markSpareBad (s 127 0)).erq.records.map (fun r => (r.kind, r.source, r.spare)) =
        [(.spareBad, .command, some 127)] ∧
      (after .markSpareBad (s 4 0)).erq.records = []) := by decide +kernel
theorem test_witness_ScrubStarts :
    let s : Word32 → Word32 → State → State := fun a b x => args a b 0 x
    let i := issuing .background base
    let f := patrolling .background .reading (.readLine true) (stored 0)
    let w := expiring .continuous 3 false base
    (∀ x ∈ [s 1 2 base, s 1 2 i, s 1 2 f, s 1 2 w], free x = true ∧ x.opened.regionsApart ∧ x.opened.ctl.state = .running) ∧
    (after .scrub (s 1 2 (inState .halted base))).cmd.result = .wrongState ∧
    (gives .scrub (s 2 1 base) = (.badArgument, false, .running) ∧
      gives .scrub (s 1 1048448 base) = (.badArgument, false, .running)) ∧
    (gives .scrub (s 1 1 base) = (.none, true, .running) ∧
      (after .scrub (s 1 1 base)).patrol.candidate = some { line := 1, owner := .scrub } ∧
      (after .scrub (s 1 1 base)).patrol.scrub = some { first := 1, last := 1, cursor := 2 }) ∧
    (gives .scrub (s 0x1000 0x1001 base) = (.done, false, .running) ∧
      (after .scrub (s 0x1000 0x1001 base)).patrol.state = .off) ∧
    ((after .scrub (s 1 2 w)).patrol.timer = none ∧ (after .scrub (s 0x1000 0x1001 w)).patrol.timer = some 100) ∧
    ((after .scrub (s 1 2 (waited 7 i))).patrol.cursor = 5 ∧ (after .scrub (s 1 2 (waited 7 i))).arbiter.patrolWait = 0 ∧
      (after .scrub (s 1 2 i)).patrol.candidate = some { line := 1, owner := .scrub }) ∧
    ((after .scrub (s 1 2 f)).patrol.state = .inFlight ∧
      (after .scrub (s 1 2 f)).patrol.candidate = some { line := 5, owner := .background } ∧
      (after .scrub (s 1 2 f)).patrol.scrub = some { first := 1, last := 2, cursor := 1 }) := by decide +kernel
/-- Line 1 is the lowest CHECKED line from 1, and every one from 1000h lies above 1001h (there is none). -/
theorem test_witness_ScrubStarts_found :
    let found : Nat → Nat → Prop := fun a l => a ≤ l ∧
      ∃ g ∈ base.regions.valid, g.cls = .checked ∧ g.base ≤ l ∧ l ≤ g.limit
    (found 1 1 ∧ ∀ l' < 1, ¬ found 1 l') ∧ ∀ l, found 0x1000 l → 0x1001 < l := by
  have h : base.regions.valid = [region .checked false true 15 15] := by decide +kernel
  simp only [h, region, List.mem_singleton, exists_eq_left]
  exact ⟨by decide, by omega⟩
theorem test_witness_InjectAndClearSuspects :
    let s : Word32 → Word32 → Word32 → State := fun a b c => args a b c base
    (free (s 0 0 0) = true ∧ (s 0 0 0).opened.ctl.state = .running) ∧
    ((after .inject (s 1048447 7 2)).aif.injection = some { line := 1048447, word := 7, bits := 2 } ∧
      (after .inject (s 0 0 1)).cmd.result = .done) ∧
    (∀ x ∈ [s 1048448 7 2, s 0 8 2, s 0 0 0, s 0 0 3], (after .inject x).cmd.result = .badArgument ∧
      (after .inject x).aif = base.aif) ∧
    (after .inject (inState .halted (s 0 0 1))).cmd.result = .wrongState ∧
    (after .clearSuspects (withSuspects [sus 5 1 false] 4 base)).suspects.entries = [] := by decide +kernel
theorem test_witness_UnknownAndRefusedCodes :
    let b := inProgress .scrub (issuing .scrub base)
    free base = true ∧ isCode 13 = false ∧ isCode 0 = false ∧ isCode 0x80000001 = false ∧
    gives (.unknownCommand 13) base = (.unknown, false, .running) ∧
    (b.opened.pins = { porst := false, wrst := false } ∧ b.opened.busy = true ∧
      ∀ i ∈ [Instr.commandRefused 1, .unknownCommand 13, .stop, .clearSuspects],
        after i b = { b with cmd := { b.cmd with refused := true } }) := by decide +kernel

/-! ## The register window -/

/-- A device with a reset input asserted. -/
def inReset : State := { base with pins := { porst := false, wrst := true } }

/-- The rows with a register of their own are ignored without all four byte enables and during a reset. -/
theorem test_witness_ignored_writes :
    let all : Enables → List Instr := fun be => [.arrayCfgWrite be 4, .suspectCfgWrite be 1, .patrolCfgWrite be 1,
      .irqCauseWrite be 0x7F, .irqEnableWrite be 0x7F, .cmdStatusWrite be 2, .recPop be 0, .counterClear .rtqFull be 0]
    let s := withRecords [rec .retired 1] { base with
      irq := { latched := .ofWord 0x7E, enableRecord := false, enable := .clear }
      cmd := { CommandSlot.reset with refused := true }
      counters := { Counters.zero with rtqFull := 9 } }
    (14 : Enables) ≠ 15 ∧ inReset.opened.pins.wrst = true ∧ s.opened = s ∧
    (all 14).all (fun i => decide (after i s = s)) = true ∧
    (all 15).all (fun i => decide (after i { s with pins := inReset.pins } = { s with pins := inReset.pins })) = true ∧
    [Instr.init, .start, .stop, .setRegion, .clearSuspects, .unknownCommand 13, .commandRefused 1].all
      (fun i => decide (after i inReset = inReset)) = true := by decide +kernel
/-- A counter stops at its largest value, and a latch sets its own cause alone. -/
theorem test_count_and_latch :
    let s : Word32 → State := fun n => { base with counters := { Counters.zero with poison := n, sweeps := 3 } }
    ((s 7).count .poison).counters = { Counters.zero with poison := 8, sweeps := 3 } ∧
    (s (BitVec.allOnes 32)).count .poison = s (BitVec.allOnes 32) ∧
    (base.irq.with .halted).latched = { Latches.clear with halted := true } ∧ base.irqPin = true ∧
    (base.readyPin .p1 = true ∧ (onPort eight base).readyPin .p1 = false ∧ inReset.readyPin .p1 = false) := by decide +kernel

theorem test_witness_ConfigurationWrites :
    let u := inState .uninit State.reset
    let s := withSuspects [sus 5 3 false, sus 6 1 false, sus 7 4 true] 4 base
    (u.opened.lrt.entries = [] ∧ u.opened.regions.valid = [] ∧ u.opened.ctl.state = .uninit ∧
      u.opened.pins = { porst := false, wrst := false }) ∧
    ((after (.arrayCfgWrite 15 4) u).aif.size = .s24 ∧ after (.arrayCfgWrite 15 5) u = u ∧
      after (.arrayCfgWrite 7 4) u = u ∧ after (.arrayCfgWrite 15 4) (inState .stopped u) = inState .stopped u ∧
      after (.arrayCfgWrite 15 4) (inState .uninit base) = inState .uninit base) ∧
    (after (.suspectCfgWrite 15 0) s = s ∧ after (.suspectCfgWrite 15 16) s = s ∧
      (after (.suspectCfgWrite 15 15) s).suspects =
        { entries := [sus 5 3 false, sus 6 1 false, sus 7 4 false], threshold := 15 } ∧
      (after (.suspectCfgWrite 15 1) s).suspects = { entries := [], threshold := 1 } ∧
      (after (.suspectCfgWrite 15 1) s).rtq = [suspectItem 5, suspectItem 6, suspectItem 7]) := by decide +kernel
theorem test_witness_PatrolCfgWrites :
    let w : Word32 → State → PatrolUnit := fun v s => (after (.patrolCfgWrite 15 v) s).patrol
    let e := expiring .continuous 3 false base
    let i := issuing .background base
    let f := patrolling .background .reading (.readLine true) (stored 0)
    (base.opened.patrol.state = .off ∧ base.opened.patrol.mode = .off ∧ e.opened.patrol.state = .waiting ∧
      i.opened.patrol.state = .issuing ∧ f.opened.patrol.state = .inFlight ∧
      (issuing .scrub base).opened.patrol.activity = .scrub) ∧
    ((w 0x0FFF0002 base).state = .waiting ∧ (w 0x0FFF0002 base).timer = some 4095 ∧ (w 2 base).timer = some 100 ∧
      (w 0x00050003 base) = { PatrolUnit.reset with interval := 5 } ∧ (w 0 base) = PatrolUnit.reset) ∧
    ((w 0 e).state = .off ∧ (w 0 e).timer = none ∧ (w 1 e).mode = .single ∧ (w 1 e).timer = some 100) ∧
    ((w 0 i).state = .off ∧ (w 0 i).cursor = 5 ∧ (w 0 i).candidate = none ∧ (w 1 i).state = .issuing ∧
      (after (.patrolCfgWrite 15 0) (waited 7 i)).arbiter.patrolWait = 0) ∧
    ((w 0 f).state = .inFlight ∧ (w 0 f).mode = .off) ∧
    ((w 0 (issuing .scrub base)).state = .issuing ∧ (w 0 (issuing .scrub base)).mode = .off) := by decide +kernel
theorem test_witness_StatusWrites :
    let s : State := withRecords [rec .retired 1, rec .corrected 2] { base with
      irq := { latched := .ofWord 0x7E, enableRecord := false, enable := .clear }
      cmd := { CommandSlot.reset with refused := true }
      counters := { Counters.zero with corrected := 7, rtqFull := 9 } }
    s.opened.pins = { porst := false, wrst := false } ∧
    (after (.irqCauseWrite 15 0x0A) s).irq.latched = .ofWord 0x74 ∧
    (after (.irqEnableWrite 15 0x03) s).irq = { s.irq with enableRecord := true, enable := .ofWord 2 } ∧
    (s.irqN = true ∧ (after (.irqEnableWrite 15 1) s).irqN = false ∧
      (after (.irqEnableWrite 15 0) s).irqN = true) ∧
    ((after (.cmdStatusWrite 15 2) s).cmd.refused = false ∧ (after (.cmdStatusWrite 15 1) s).cmd.refused = true) ∧
    ((after (.recPop 15 0) s).erq.records = [rec .corrected 2] ∧ (after (.recPop 15 0) base).erq = base.erq) ∧
    ((after (.counterClear .rtqFull 15 5) s).counters = { Counters.zero with corrected := 7 } ∧
      (after (.counterClear .corrected 14 5) s).counters = s.counters) := by decide +kernel
theorem test_witness_RegisterWindow :
    let w : BitVec 12 → Word32 → State := fun o v => after (.registerWrite o 15 v) base
    ((14 : Enables) ≠ 15 ∧ after (.registerWrite 0x014 14 0) base = base) ∧
    (regAt 0x00C = none ∧ regAt 0x0F8 = none ∧ regAt 0xA00 = none ∧ w 0x0F8 5 = base ∧ w 0x090 5 = base) ∧
    (w 0x014 5).policy = { writebackOnCorrect := true, retireOnUe := false, haltOnUe := true, poisonOnUe := false } ∧
    ((w 0x024 127).pool.lowLevel = 127 ∧ w 0x024 128 = base) ∧
    (w 0x068 0xA507).regions.stage =
      { base := 0, limit := 0, cls := .unchecked, writeProtect := true, patrol := true, readMask := 5, writeMask := 10 } ∧
    ((∀ o ∈ [(0x104 : BitVec 12), 0x404, 0x000, 0x094], w o 5 = base) ∧
      after (.registerWrite 0x014 15 0) inReset = inReset ∧ inReset.readWindow 0x000 = 0 ∧ base.readWindow 0x00C = 0) ∧
    (w 0x040 3).ctl.state = .stopped ∧ (after (.registerWrite 0x0F4 15 1)
      { base with counters := { Counters.zero with rtqFull := 9 } }).counters = .zero := by decide +kernel
/-- Reads of the window (11.5): the head record, a region, a suspect, a remap entry and the status words. -/
theorem test_window_reads :
    let s := withRecords [{ correctedRecord (.port .p1) 5 (.spare 9) 4 with seq := 0x21 }] (withSuspects [sus 5 3 true] 3
      (inState .halted (buffered false false)))
    let r : BitVec 12 → Word32 := fun o => s.readWindow o
    r 0x000 = 0x00058001 ∧ r 0x004 = 5 ∧ r 0x008 = 1048448 ∧
    r 0x080 = 0x1B110021 ∧ r 0x084 = 5 ∧ r 0x088 = 0x00890104 ∧ r 0x08C = 0 ∧ r 0x094 = 1 ∧
    r 0x100 = 1 ∧ r 0x108 = 0xFFF ∧ r 0x10C = 0x0000FF04 ∧ r 0x110 = 0 ∧
    (r 0x300 = 0 ∧ r 0x208 = 0 ∧ r 0x284 = 0 ∧ r 0x408 = 0 ∧ r 0x180 = 0 ∧ r 0x9FC = 0) ∧
    (base.readWindow 0x080 = 0 ∧ base.readWindow 0x08C = 0) ∧
    r 0x200 = 0xC0000005 ∧ r 0x204 = 0x00000103 ∧ r 0x028 = 0x0000017F ∧ r 0x02C = 7 ∧ r 0x80C = 0 ∧ r 0x808 = 1 := by
  decide +kernel

/-! ## The array -/

theorem test_witness_ArrayCellFaults :
    let s := withOp .writePoison (.controller) 5 (stored 0) base
    (s.opened.aif.size.lines = 1048576 ∧ s.opened.aif.mem.get 5 = some (stored 0) ∧ s.opened.aif.mem.get 6 = none) ∧
    ((after (.arrayCellFault 5 7 5) s).aif.mem = [(5, stored (5 <<< 504))] ∧
      after (.arrayCellFault 1048575 7 5) s = s.opened ∧
      (after (.arrayCellFault 5 7 4) (after (.arrayCellFault 5 7 4) s)).aif.mem = [(5, stored (4 <<< 504))]) := by
  decide +kernel
/-- Stored words with no, one, two and three bits in error, of data and of poison. -/
theorem test_witness_ArrayCellFaults_reads :
    let u : StoredLine → State := fun l => withOp .writePoison .controller 5 l base
    let o : StoredLine → WordOutcome × Word64 := fun l =>
      (((u l).decodedRead 5).outcomes.getD 0 .clean, lineWord ((u l).decodedRead 5).data 0)
    let p : BitVec 576 → StoredLine := fun e => { written := .poison, errs := e }
    (o (stored 0) = (.clean, 0x1234) ∧ o (stored (1 <<< 71)) = (.single, 0x1234) ∧ o (stored 3) = (.multi, 0x1237) ∧
      (u (stored 3)).rawRead 5 = 0x1237) ∧
    (o (p 0) = (.poison, 0) ∧ o (p 1) = (.multi, 1) ∧ o (p (1 <<< 71 ||| 1)) = (.multi, 1) ∧ (u (p 6)).rawRead 5 = 6) ∧
    ((errWord 7 0).getLsbD 2 = true ∧ (errWord 7 0).getLsbD 1 = true ∧ (errWord 7 0).getLsbD 0 = true) ∧
    (u (stored 0)).decodedRead 5 =
      { data := 0x1234, outcomes := List.replicate 8 .clean, outcome := .clean, corrected := 0, errors := 0 } ∧
    (u storedPoison).decodedRead 5 =
      { data := 0, outcomes := List.replicate 8 .poison, outcome := .poisoned, corrected := 0, errors := 0xFF } := by decide +kernel
theorem test_witness_ArrayCellFaults_stop :
    exec (.arrayCellFault 1048576 0 1) base = .fault .noSuchCell ∧ exec (.arrayCellFault 0 8 1) base = .fault .noSuchCell :=
  ⟨rfl, rfl⟩

/-! ## Invariants -/

/-- With an empty queue a step answers the opened state. -/
theorem idleStep (s : State) (h : s.pending = []) : step s = .next s.opened := by simp only [step, h]
theorem test_witness_EveryStepKeepsMemoryCanonical :
    (withOp .writePoison .controller 5 (stored 0) base).aif.mem.wf = true ∧ step base = .next base.opened :=
  ⟨by decide +kernel, idleStep _ (by decide +kernel)⟩
theorem test_witness_EveryStepKeepsSizes : base.fits ∧ step base = .next base.opened := ⟨by decide +kernel, idleStep _ (by decide +kernel)⟩
theorem test_witness_EveryStepKeepsRegionsApart : base.regionsApart ∧ step base = .next base.opened :=
  ⟨by decide +kernel, idleStep _ (by decide +kernel)⟩
theorem test_witness_EveryStepKeepsSuspectsBounded :
    let s := withSuspects [sus 5 4 true, sus 6 1 false] 4 base
    s.suspectsBounded ∧ step s = .next s.opened := ⟨by decide +kernel, idleStep _ (by decide +kernel)⟩
theorem test_witness_EveryStepKeepsRemapSound :
    let s := buffered false false
    s.remapSound ∧ step s = .next s.opened := ⟨by decide +kernel, idleStep _ (by decide +kernel)⟩
theorem test_witness_EveryStepKeepsTagsHeld :
    busy.olt.slots.length = 8 ∧ busy.tagsHeld ∧ step busy = .next busy.opened :=
  ⟨by decide +kernel, by decide +kernel, idleStep _ (by decide +kernel)⟩
theorem test_witness_EveryStepKeepsOpenSound : busy.openSound ∧ step busy = .next busy.opened :=
  ⟨by decide +kernel, idleStep _ (by decide +kernel)⟩
theorem test_witness_EveryStepKeepsControlSound :
    let s := inProgress .scrub (issuing .scrub base)
    s.olt.slots.length = 8 ∧ s.controlSound ∧ step s = .next s.opened :=
  ⟨by decide +kernel, by decide +kernel, idleStep _ (by decide +kernel)⟩
/-- A request is accepted, granted, issued and answered: each step keeps what it must. -/
theorem test_one_write_through :
    let s1 := after (.requestAccept .p1 (req (.write (BitVec.allOnes 64) 0xAB))) base
    let s2 := after .grantPortHead s1
    let s3 := after (.entryIssue 0) s2
    let s4 := after (.demandWriteComplete 0) s3
    (s1.tagsHeld ∧ s2.tagsHeld ∧ s3.openSound ∧ s4.openSound) ∧
    s4.responses = [{ port := .p1, tag := 3, status := .ok, data := none, mask := 0 }] ∧
    s4.aif.mem = [(5, { written := .data 0xAB, errs := 0 })] ∧ s4.ports = .empty := by decide +kernel

end Sys2Proof.Tests
end

section
/-!
PROOFS. The array's contents: which operations store nothing, what a completion stores, and what one command can do to
the contents (R4, R10, R11, R16). The canonical form of the contents, which every step keeps, follows from that.
-/

namespace Sys2Proof.Machine

/-! ## Operations that store nothing and keep the array size: what they issue acts at its completion (R1, R11) -/

@[simp] theorem State.issueRead_size (s : State) (l : Loc) (line : Nat) (decoded : Bool) (b : Issuer) :
    (s.issueRead l line decoded b).aif.size = s.aif.size := rfl

@[simp] theorem State.issueWrite_size (s : State) (l : Loc) (line : Nat) (d : LineData) (b : Issuer) :
    (s.issueWrite l line d b).aif.size = s.aif.size := rfl

@[simp] theorem State.issuePoison_size (s : State) (l : Loc) (line : Nat) (b : Issuer) :
    (s.issuePoison l line b).aif.size = s.aif.size := rfl

@[simp] theorem State.issueTarget_contents (s : State) :
    s.issueTarget.aif.mem = s.aif.mem ∧ s.issueTarget.aif.size = s.aif.size := by
  unfold State.issueTarget
  (repeat' split) <;> simp

@[simp] theorem State.issueVerify_contents (s : State) :
    s.issueVerify.aif.mem = s.aif.mem ∧ s.issueVerify.aif.size = s.aif.size := by
  unfold State.issueVerify
  split <;> simp

@[simp] theorem State.moveVerifyFailed_contents (s : State) (i : RetireItem) (t : Nat) :
    (s.moveVerifyFailed i t).aif.mem = s.aif.mem ∧ (s.moveVerifyFailed i t).aif.size = s.aif.size := by
  unfold State.moveVerifyFailed
  dsimp only
  (repeat' split) <;> simp

@[simp] theorem State.verifyFailed_contents (s : State) (i : RetireItem) :
    (s.verifyFailed i).aif.mem = s.aif.mem ∧ (s.verifyFailed i).aif.size = s.aif.size := by
  unfold State.verifyFailed
  split <;> simp

@[simp] theorem State.verifyGood_contents (s : State) (i : RetireItem) :
    (s.verifyGood i).aif.mem = s.aif.mem ∧ (s.verifyGood i).aif.size = s.aif.size := by
  unfold State.verifyGood
  (repeat' split) <;> simp

@[simp] theorem State.verifyOutcome_contents (s : State) (i : RetireItem) (o : LineOutcome) :
    (s.verifyOutcome i o).aif.mem = s.aif.mem ∧ (s.verifyOutcome i o).aif.size = s.aif.size := by
  unfold State.verifyOutcome
  split <;> simp

@[simp] theorem State.issueEntryRead_contents (s : State) (k : Nat) (e : OpenEntry) (l : Loc) (decoded : Bool) :
    (s.issueEntryRead k e l decoded).aif.mem = s.aif.mem ∧
    (s.issueEntryRead k e l decoded).aif.size = s.aif.size := by
  simp [State.issueEntryRead]

@[simp] theorem State.mergeWrite_contents (s : State) (k : Nat) (e : OpenEntry) (mask : ByteMask)
    (data : LineData) :
    (s.mergeWrite k e mask data).aif.mem = s.aif.mem ∧ (s.mergeWrite k e mask data).aif.size = s.aif.size := by
  simp [State.mergeWrite]

@[simp] theorem State.issueBufferWrite_contents (s : State) (k : Nat) (e : OpenEntry) (port : PortId) (tag : Tag)
    (mask : ByteMask) (data : LineData) :
    (s.issueBufferWrite k e port tag mask data).aif.mem = s.aif.mem ∧
    (s.issueBufferWrite k e port tag mask data).aif.size = s.aif.size := by
  unfold State.issueBufferWrite
  (repeat' split) <;> simp

@[simp] theorem State.issueArrayWrite_contents (s : State) (k : Nat) (e : OpenEntry) (mask : ByteMask)
    (data : LineData) (l : Loc) :
    (s.issueArrayWrite k e mask data l).aif.mem = s.aif.mem ∧
    (s.issueArrayWrite k e mask data l).aif.size = s.aif.size := by
  unfold State.issueArrayWrite
  split <;> simp

/-- The issue of an entry stores nothing (R11, R68). -/
@[simp] theorem State.issueEntry_contents (s : State) (k : Nat) :
    (s.issueEntry k).aif.mem = s.aif.mem ∧ (s.issueEntry k).aif.size = s.aif.size := by
  unfold State.issueEntry
  (repeat' split) <;> simp

@[simp] theorem issueDue_contents (n : Nat) (s : State) :
    (issueDue n s).aif.mem = s.aif.mem ∧ (issueDue n s).aif.size = s.aif.size := by
  induction n generalizing s with
  | zero => exact ⟨rfl, rfl⟩
  | succ n ih =>
    simp only [issueDue]
    split
    · exact ⟨rfl, rfl⟩
    · simp [ih]

@[simp] theorem State.settleIssues_contents (s : State) :
    s.settleIssues.aif.mem = s.aif.mem ∧ s.settleIssues.aif.size = s.aif.size :=
  issueDue_contents _ s

@[simp] theorem State.settle_contents (s : State) :
    s.settle.aif.mem = s.aif.mem ∧ s.settle.aif.size = s.aif.size := by
  simp [State.settle]

/-- The steps that are due before a command store nothing. -/
@[simp] theorem State.opened_contents (s : State) :
    s.opened.aif.mem = s.aif.mem ∧ s.opened.aif.size = s.aif.size := by
  simp [State.opened]

@[simp] theorem State.issueIfDue_contents (s : State) (k : Nat) :
    (s.issueIfDue k).aif.mem = s.aif.mem ∧ (s.issueIfDue k).aif.size = s.aif.size := by
  unfold State.issueIfDue
  split <;> simp

@[simp] theorem State.readCorrected_contents (s : State) (k : Nat) (e : OpenEntry) (p : PortId) (t : Tag)
    (r : LineRead) :
    (s.readCorrected k e p t r).aif.mem = s.aif.mem ∧ (s.readCorrected k e p t r).aif.size = s.aif.size := by
  unfold State.readCorrected
  dsimp only
  split <;> simp

@[simp] theorem State.readDecoded_contents (s : State) (k : Nat) (e : OpenEntry) (p : PortId) (t : Tag)
    (r : LineRead) :
    (s.readDecoded k e p t r).aif.mem = s.aif.mem ∧ (s.readDecoded k e p t r).aif.size = s.aif.size := by
  unfold State.readDecoded
  split <;> simp

@[simp] theorem State.writeMerged_contents (s : State) (k : Nat) (e : OpenEntry) (mask : ByteMask)
    (data old : LineData) (res : Option EntryResult) :
    (s.writeMerged k e mask data old res).aif.mem = s.aif.mem ∧
    (s.writeMerged k e mask data old res).aif.size = s.aif.size := by
  simp [State.writeMerged]

@[simp] theorem State.partialUncorrectable_contents (s : State) (k : Nat) (e : OpenEntry) (p : PortId)
    (r : LineRead) :
    (s.partialUncorrectable k e p r).aif.mem = s.aif.mem ∧
    (s.partialUncorrectable k e p r).aif.size = s.aif.size := by
  simp [State.partialUncorrectable]

@[simp] theorem State.partialDecoded_contents (s : State) (k : Nat) (e : OpenEntry) (p : PortId) (t : Tag)
    (mask : ByteMask) (data : LineData) (r : LineRead) :
    (s.partialDecoded k e p t mask data r).aif.mem = s.aif.mem ∧
    (s.partialDecoded k e p t mask data r).aif.size = s.aif.size := by
  unfold State.partialDecoded
  split <;> simp

@[simp] theorem State.patrolOutcome_contents (s : State) (k : Nat) (e : OpenEntry) (r : LineRead) :
    (s.patrolOutcome k e r).aif.mem = s.aif.mem ∧ (s.patrolOutcome k e r).aif.size = s.aif.size := by
  unfold State.patrolOutcome
  dsimp only
  (repeat' split) <;> simp

@[simp] theorem State.afterCopyRead_contents (s : State) (k : Nat) (waiterFirst : Bool) :
    (s.afterCopyRead k waiterFirst).aif.mem = s.aif.mem ∧ (s.afterCopyRead k waiterFirst).aif.size = s.aif.size := by
  unfold State.afterCopyRead
  split <;> simp

@[simp] theorem State.fillIssue_contents (s : State) :
    s.fillIssue.aif.mem = s.aif.mem ∧ s.fillIssue.aif.size = s.aif.size := by
  unfold State.fillIssue
  split <;> simp

/-- A maintenance command stores nothing: INJECT arms an injection and no other touches the Array Interface. -/
@[simp] theorem State.take_contents (s : State) (c : Command) :
    (s.take c).aif.mem = s.aif.mem ∧ (s.take c).aif.size = s.aif.size := by
  cases c
  case inject => simp only [State.take, State.takeInject]; split <;> simp
  all_goals simp [State.take]

@[simp] theorem State.writeCode_contents (s : State) (code : Word32) :
    (s.writeCode code).aif.mem = s.aif.mem ∧ (s.writeCode code).aif.size = s.aif.size := by
  unfold State.writeCode State.takeCode State.tryTake
  (repeat' split) <;> simp

/-- A write to the register window stores nothing: ARRAY_CFG sets the size alone. -/
@[simp] theorem State.writeReg_mem (s : State) (r : Reg) (v : Word32) : (s.writeReg r v).aif.mem = s.aif.mem := by
  cases r
  case arrayCfg => simp only [State.writeReg, State.writeArrayCfg]; (repeat' split) <;> simp
  all_goals simp [State.writeReg]

@[simp] theorem State.busWrite_mem (s : State) (r : Reg) (be : Enables) (v : Word32) :
    (s.busWrite r be v).aif.mem = s.aif.mem := by
  unfold State.busWrite
  split <;> simp

@[simp] theorem State.windowWrite_mem (s : State) (offset : BitVec 12) (be : Enables) (v : Word32) :
    (s.windowWrite offset be v).aif.mem = s.aif.mem := by
  unfold State.windowWrite
  split <;> simp

@[simp] theorem State.commandWrite_mem (s : State) (code : Word32) : (s.commandWrite code).aif.mem = s.aif.mem := by
  simp [State.commandWrite]

/-! ## Completions: one issued operation takes effect (R10, R11) -/

/-- Between s and t the contents stay, or one operation that was issued in s has its effect applied to them. -/
def State.storesOne (s t : State) : Prop :=
  t.aif.mem = s.aif.mem ∨ ∃ op ∈ s.aif.ops, t.aif.mem = s.aif.mem.apply op

/-- The completion of an entry's operation, where it completes at all, stores that operation. -/
theorem State.storesOne_of_entryOp (s t : State) (k : Nat) (e : OpenEntry) (op : ArrayOp)
    (h : s.entryOp k = some (e, op)) (m : t.aif.mem = s.aif.mem ∨ t.aif.mem = s.aif.mem.apply op) :
    s.storesOne t := by
  obtain ⟨-, -, issued, -⟩ := s.entryOp_spec k e op h
  exact m.imp_right fun m => ⟨op, issued, m⟩

/-- The completion of an operation that is found by a property stores that operation. -/
theorem State.storesOne_of_completable (s t : State) (p : ArrayOp → Bool) (op : ArrayOp)
    (h : s.completable p = some op) (m : t.aif.mem = s.aif.mem.apply op) : s.storesOne t := by
  obtain ⟨-, issued, -⟩ := s.completable_spec p op h
  exact .inr ⟨op, issued, m⟩

theorem State.demandReadDone_storesOne (s : State) (k : Nat) : s.storesOne (s.demandReadDone k) := by
  unfold State.demandReadDone
  split
  · exact .inl rfl
  next e op h => exact s.storesOne_of_entryOp _ k e op h (by split <;> simp)

theorem State.partialReadDone_storesOne (s : State) (k : Nat) : s.storesOne (s.partialReadDone k) := by
  unfold State.partialReadDone
  split
  · exact .inl rfl
  next e op h => exact s.storesOne_of_entryOp _ k e op h (by split <;> simp)

theorem State.demandWriteDone_storesOne (s : State) (k : Nat) : s.storesOne (s.demandWriteDone k) := by
  unfold State.demandWriteDone
  split
  · exact .inl rfl
  next e op h => exact s.storesOne_of_entryOp _ k e op h (by (repeat' split) <;> simp)

theorem State.poisonWriteDone_storesOne (s : State) (k : Nat) : s.storesOne (s.poisonWriteDone k) := by
  unfold State.poisonWriteDone
  split
  · exact .inl rfl
  next e op h => exact s.storesOne_of_entryOp _ k e op h (by (repeat' split) <;> simp)

theorem State.sourceWriteDone_storesOne (s : State) (k : Nat) : s.storesOne (s.sourceWriteDone k) := by
  unfold State.sourceWriteDone
  split
  · exact .inl rfl
  next e op h => exact s.storesOne_of_entryOp _ k e op h (by (repeat' split) <;> simp)

theorem State.writebackDone_storesOne (s : State) (k : Nat) : s.storesOne (s.writebackDone k) := by
  unfold State.writebackDone
  split
  · exact .inl rfl
  next e op h => exact s.storesOne_of_entryOp _ k e op h (by split <;> simp)

theorem State.patrolReadDone_storesOne (s : State) (k : Nat) : s.storesOne (s.patrolReadDone k) := by
  unfold State.patrolReadDone
  split
  · exact .inl rfl
  next e op h => exact s.storesOne_of_entryOp _ k e op h (by split <;> simp)

theorem State.scrubWriteDone_storesOne (s : State) (k : Nat) : s.storesOne (s.scrubWriteDone k) := by
  unfold State.scrubWriteDone
  split
  · exact .inl rfl
  next e op h => exact s.storesOne_of_entryOp _ k e op h (by split <;> simp)

theorem State.copyReadDone_storesOne (s : State) (k : Nat) (waiterFirst : Bool) :
    s.storesOne (s.copyReadDone k waiterFirst) := by
  unfold State.copyReadDone
  split
  · exact .inl rfl
  next e op h => exact s.storesOne_of_entryOp _ k e op h (by (repeat' split) <;> simp)

theorem State.targetWriteDone_storesOne (s : State) : s.storesOne s.targetWriteDone := by
  unfold State.targetWriteDone
  split
  next op _ h => exact s.storesOne_of_completable _ _ op h (by simp)
  · exact .inl rfl

theorem State.verifyDone_storesOne (s : State) : s.storesOne s.verifyDone := by
  unfold State.verifyDone
  split
  next i op _ _ h => exact s.storesOne_of_completable _ _ op h (by simp)
  · exact .inl rfl

theorem State.lateEntry_storesOne (s : State) (k : Nat) : s.storesOne (s.lateEntry k) := by
  unfold State.lateEntry
  split
  · exact .inl rfl
  next e op h => exact s.storesOne_of_entryOp _ k e op h (by (repeat' split) <;> simp)

theorem State.lateArray_storesOne (s : State) (phys : Nat) : s.storesOne (s.lateArray phys) := by
  unfold State.lateArray
  split
  · exact .inl rfl
  next op h =>
    have issued : op ∈ s.aif.ops := List.mem_of_find?_eq_some h
    (repeat' split)
    · exact .inl rfl
    · exact .inr ⟨op, issued, rfl⟩
    · exact .inl rfl
    · exact .inl rfl

theorem State.lateDone_storesOne (s : State) (op : LateOp) : s.storesOne (s.lateDone op) := by
  cases op with
  | entry k => exact s.lateEntry_storesOne k
  | array phys => exact s.lateArray_storesOne phys

theorem State.fillDone_storesOne (s : State) (line : Nat) : s.storesOne (s.fillDone line) := by
  unfold State.fillDone
  split
  · exact .inl rfl
  next op h => exact s.storesOne_of_completable _ _ op h rfl

/-! ## What one command can do to the contents -/

/-- What can become of the contents between the state s in which a command acts and the next state t: they stay, an
operation that was issued in s completes (R11), a warm reset stores every issued write (R16), a power-on reset leaves
them undefined (R16), or cells of one line fail (R6). -/
inductive State.Stored (s t : State) : Prop
  | kept (h : t.aif.mem = s.aif.mem)
  | completed (op : ArrayOp) (issued : op ∈ s.aif.ops) (h : t.aif.mem = s.aif.mem.apply op)
  | drained (h : t.aif.mem = applyAll s.aif.ops s.aif.mem)
  | lost (h : t.aif.mem = [])
  | damaged (phys : Nat) (l : StoredLine) (h : t.aif.mem = s.aif.mem.set phys l)

/-- The next state is the one that a command answers. -/
theorem State.Stored.of_next {s u t : State} (h : (.next u : Result) = .next t) (c : s.Stored u) : s.Stored t :=
  Host.Outcome.next.inj h ▸ c

/-- At most one completion is one of these changes. -/
theorem State.storesOne.stored {s t : State} (h : s.storesOne t) : s.Stored t := by
  obtain h | ⟨op, issued, h⟩ := h
  · exact .kept h
  · exact .completed op issued h

/-- A cell fault changes at most the stored line it names. -/
theorem State.cellFault_stored (s : State) (phys word : Nat) (bits : BitVec 72) :
    s.Stored (s.cellFault phys word bits) := by
  unfold State.cellFault
  split
  · exact .kept rfl
  · exact .damaged phys _ rfl

/-- Every command does one of these to the contents, seen from the state with every due step performed. -/
theorem exec_stored (c : Instr) (s t : State) (h : exec c s = .next t) : s.opened.Stored t := by
  cases c with
  | powerOnReset => exact .of_next h (.lost rfl)
  | warmReset => exact .of_next h (.drained rfl)
  | demandReadComplete k => exact .of_next h (State.demandReadDone_storesOne _ k).stored
  | partialWriteReadComplete k => exact .of_next h (State.partialReadDone_storesOne _ k).stored
  | demandWriteComplete k => exact .of_next h (State.demandWriteDone_storesOne _ k).stored
  | rmwPoisonWriteComplete k => exact .of_next h (State.poisonWriteDone_storesOne _ k).stored
  | sourceWriteComplete k => exact .of_next h (State.sourceWriteDone_storesOne _ k).stored
  | writebackComplete k => exact .of_next h (State.writebackDone_storesOne _ k).stored
  | patrolReadComplete k => exact .of_next h (State.patrolReadDone_storesOne _ k).stored
  | scrubWriteComplete k => exact .of_next h (State.scrubWriteDone_storesOne _ k).stored
  | copyReadComplete k w => exact .of_next h (State.copyReadDone_storesOne _ k w).stored
  | targetWriteComplete => exact .of_next h (State.targetWriteDone_storesOne _).stored
  | verifyComplete => exact .of_next h (State.verifyDone_storesOne _).stored
  | lateCompletion op => exact .of_next h (State.lateDone_storesOne _ op).stored
  | fillWriteComplete line => exact .of_next h (State.fillDone_storesOne _ line).stored
  | arrayCellFault phys word bits =>
    simp only [exec, execArrayCellFault] at h
    split at h
    · exact .of_next h (State.cellFault_stored _ phys word bits)
    · cases h
  | _ => exact .of_next h (.kept (by simp))

/-- Whatever a command does to the contents keeps their canonical form. -/
theorem State.Stored.wf {s t : State} (c : s.Stored t) (h : s.aif.mem.wf = true) : t.aif.mem.wf = true := by
  cases c with
  | kept e => rwa [e]
  | completed op _ e => rw [e]; exact Memory.apply_wf _ op h
  | drained e => rw [e]; exact applyAll_wf _ _ h
  | lost e => rw [e]; rfl
  | damaged phys l e => rw [e]; exact Memory.set_wf _ phys l h

/-- Settles O52: a step performs what is due, which stores nothing, and then acts by one command. -/
theorem everyStepKeepsMemoryCanonical : Obligations.EveryStepKeepsMemoryCanonical := by
  intro s t h hs
  unfold step at hs
  split at hs
  · cases Host.Outcome.next.inj hs
    simpa using h
  next c rest _ => exact (exec_stored c _ t hs).wf (by simpa using h)

end Sys2Proof.Machine
end

section
/-!
PROOFS. Every command runs, but for a fault of a cell that does not exist (R2, R4), and by the frames of the rows none
touches the queue.
-/

namespace Sys2Proof.Machine

/-- A cell fault at a cell that exists damages its line (R6). -/
theorem exec_arrayCellFault_next (s : State) (phys word : Nat) (bits : BitVec 72)
    (hp : phys < s.opened.aif.size.lines) (hw : word < 8) :
    exec (.arrayCellFault phys word bits) s = .next (s.opened.cellFault phys word bits) :=
  if_pos ⟨hp, hw⟩

/-- A cell fault at a cell that does not exist stops (R2, R4; log entry 9). -/
theorem exec_arrayCellFault_fault (s : State) (phys word : Nat) (bits : BitVec 72)
    (h : s.opened.aif.size.lines ≤ phys ∨ 8 ≤ word) :
    exec (.arrayCellFault phys word bits) s = .fault .noSuchCell :=
  if_neg (by omega)

/-- Settles O3: the resets and every row but the cell fault answer a next state whose frame keeps the queue; a cell fault
tests its cell against the array size, which no due step changes. -/
theorem everyCommandRunsAndKeepsTheQueue : Obligations.EveryCommandRunsAndKeepsTheQueue := by
  intro c s
  cases c with
  | arrayCellFault phys word bits =>
    by_cases cell : phys < s.opened.aif.size.lines ∧ word < 8
    · exact .inl ⟨_, exec_arrayCellFault_next s phys word bits cell.1 cell.2, by simp⟩
    · have missing : s.opened.aif.size.lines ≤ phys ∨ 8 ≤ word := by omega
      refine .inr ⟨exec_arrayCellFault_fault s phys word bits missing, phys, word, bits, rfl, ?_⟩
      rwa [s.opened_contents.2] at missing
  | powerOnReset => exact .inl ⟨_, rfl, by simp [State.powerOn]⟩
  | warmReset => exact .inl ⟨_, rfl, by simp [State.warm]⟩
  | _ => exact .inl ⟨_, rfl, by simp⟩

end Sys2Proof.Machine
end

section
/-!
PROOFS. What a decoded read makes of eight word outcomes (R7), of stored contents with bits in error (R5, R6), and what
a cell fault does to stored contents (R6).
-/

namespace Sys2Proof.Machine

/-! ## The line outcome and the masks (R7) -/

/-- Counting words is counting those of a range that satisfy the test. -/
theorem countWords_eq_length (f : Nat → Bool) (n : Nat) : countWords f n = ((List.range n).filter f).length := by
  induction n with
  | zero => rfl
  | succ n ih => cases h : f n <;> simp [countWords, List.range_succ, ih, h]

/-- Some word is counted exactly when one satisfies the test. -/
theorem countWords_pos_iff (f : Nat → Bool) (n : Nat) : 0 < countWords f n ↔ ∃ w < n, f w = true := by
  simp [countWords_eq_length, List.length_pos_iff_exists_mem]

/-- The table of R7 row by row, in terms of the words themselves. -/
theorem lineOutcome_rows (o : Nat → WordOutcome) :
    let poisons := ((List.range 8).filter (fun w => decide (o w = .poison))).length
    let bad : Prop := ∃ w < 8, o w = .multi ∨ o w = .poison
    let single : Prop := ∃ w < 8, o w = .single
    (5 ≤ poisons → lineOutcome o = .poisoned) ∧
    (¬ 5 ≤ poisons → bad → lineOutcome o = .uncorrectable) ∧
    (¬ 5 ≤ poisons → ¬ bad → single → lineOutcome o = .corrected) ∧
    (¬ 5 ≤ poisons → ¬ bad → ¬ single → lineOutcome o = .clean) := by
  intro poisons bad single
  have count : countWords (fun w => decide (o w = .poison)) 8 = poisons := countWords_eq_length _ 8
  have someBad : 0 < countWords (fun w => decide (o w = .multi ∨ o w = .poison)) 8 ↔ bad := by
    simp [countWords_pos_iff, bad]
  have someSingle : 0 < countWords (fun w => decide (o w = .single)) 8 ↔ single := by
    simp [countWords_pos_iff, single]
  simp only [lineOutcome, count, someBad, someSingle]
  refine ⟨fun p => if_pos p, fun p b => ?_, fun p b c => ?_, fun p b c => ?_⟩
  · rw [if_neg p, if_pos b]
  · rw [if_neg p, if_neg b, if_pos c]
  · rw [if_neg p, if_neg b, if_neg c]

/-- Bit w of the corrected-word mask (R7). -/
theorem LineRead.corrected_ofWords (ws : Nat → WordOutcome × Word64) (w : Nat) (h : w < 8) :
    (LineRead.ofWords ws).corrected.getLsbD w = decide ((ws w).1 = .single) :=
  wordMaskOf_getLsbD (fun w => decide ((ws w).1 = .single)) w h

/-- Bit w of the error mask (R7). -/
theorem LineRead.errors_ofWords (ws : Nat → WordOutcome × Word64) (w : Nat) (h : w < 8) :
    (LineRead.ofWords ws).errors.getLsbD w = decide ((ws w).1 = .multi ∨ (ws w).1 = .poison) :=
  wordMaskOf_getLsbD (fun w => decide ((ws w).1 = .multi ∨ (ws w).1 = .poison)) w h

/-- Settles O51: the table of R7 row by row, the masks bit by bit, the data and the outcomes word by word. -/
theorem lineOutcomeAndMasks : Obligations.LineOutcomeAndMasks := by
  intro ws
  obtain ⟨poisoned, uncorrectable, corrected, clean⟩ := lineOutcome_rows (fun w => (ws w).1)
  exact ⟨poisoned, uncorrectable, corrected, clean, LineRead.corrected_ofWords ws, LineRead.errors_ofWords ws,
    LineRead.lineWord_ofWords ws, by simp [LineRead.ofWords], LineRead.outcomes_ofWords ws⟩

/-! ## Stored contents and their reads (R5, R6, R10) -/

/-- The bits in error of one word after bits of a word are put in error. -/
theorem errWord_or_errBits (e : BitVec 576) (word w : Nat) (bits : BitVec 72) (hw : w < 8) :
    errWord (e ||| errBits word bits) w = if w = word then errWord e w ||| bits else errWord e w := by
  apply BitVec.eq_of_getLsbD_eq
  intro i hi
  have inLine : 72 * w + i < 576 := by omega
  simp only [errWord, errBits, BitVec.getLsbD_extractLsb', BitVec.getLsbD_or, BitVec.getLsbD_shiftLeft,
    BitVec.getLsbD_setWidth, hi, inLine, decide_true, Bool.true_and]
  by_cases h : w = word
  · subst h
    have place : 72 * w + i - 72 * w = i := by omega
    have past : ¬ 72 * w + i < 72 * w := by omega
    have low : i < 576 := by omega
    simp [place, hi, low]
  · rcases Nat.lt_or_gt_of_ne h with before | after
    · have short : 72 * w + i < 72 * word := by omega
      simp [h, short, hi]
    · have long : 72 ≤ 72 * w + i - 72 * word := by omega
      simp [h, BitVec.getLsbD_of_ge bits _ long, hi]

/-- Undefined contents stay undefined (R16). -/
theorem State.cellFault_of_undefined (s : State) (phys word : Nat) (bits : BitVec 72) (h : s.aif.mem.get phys = none) :
    s.cellFault phys word bits = s := by
  simp [State.cellFault, h]

/-- Stored contents take the bits in error, and nothing else of the state changes (R6). -/
theorem State.cellFault_of_stored (s : State) (phys word : Nat) (bits : BitVec 72) (l : StoredLine)
    (h : s.aif.mem.get phys = some l) :
    s.cellFault phys word bits = { s with aif := { s.aif with mem := s.aif.mem.set phys (l.damage word bits) } } := by
  simp [State.cellFault, h, State.setAif]

/-- A read of stored contents decodes them or gives them as they stand (R10). -/
theorem State.reads_of_stored (s : State) (phys : Nat) (l : StoredLine) (h : s.aif.mem.get phys = some l) :
    s.decodedRead phys = l.decoded ∧ s.rawRead phys = l.raw := by
  simp [State.decodedRead, State.rawRead, h]

/-- A decoded line delivers outcome o and data x for a word exactly when the word decodes so. -/
theorem StoredLine.decoded_gives_iff (l : StoredLine) (w : Nat) (hw : w < 8) (o : WordOutcome) (x : Word64) :
    (l.decoded.outcomes[w]? = some o ∧ lineWord l.decoded.data w = x) ↔ l.decodeWord w = (o, x) := by
  rw [StoredLine.decoded, LineRead.outcomes_ofWords _ w hw, LineRead.lineWord_ofWords _ w hw, Prod.ext_iff,
    Option.some.injEq]

/-- What a decoded line delivers for a word with a free outcome keeps the limits of R6. -/
theorem StoredLine.decoded_heavy (l : StoredLine) (w : Nat) (hw : w < 8) (poison : Bool) (base stored : Word64)
    (e : l.decodeWord w = heavyWord poison base stored (errWord l.errs w)) (o : WordOutcome) (x : Word64)
    (g : l.decoded.outcomes[w]? = some o ∧ lineWord l.decoded.data w = x) :
    (o = .clean ∨ o = .single → x ≠ base) ∧ (o ≠ .single → x = stored) ∧
    (o = .single → x = stored ∨ ∃ b < 64, x = stored ^^^ 1#64 <<< b) := by
  have limits := heavyWord_limits poison base stored (errWord l.errs w)
  rwa [← e, (l.decoded_gives_iff w hw o x).1 g] at limits

/-- Word w of a raw read is the word as it stands (R10). -/
theorem StoredLine.lineWord_raw (l : StoredLine) (w : Nat) (hw : w < 8) : lineWord l.raw w = l.rawWord w :=
  lineWord_lineOfWords l.rawWord w hw

/-- A data word as it stands: what was written, with the bits in error inverted. -/
theorem StoredLine.rawWord_data (l : StoredLine) (d : LineData) (w : Nat) (h : l.written = .data d) :
    l.rawWord w = lineWord d w ^^^ (errWord l.errs w).setWidth 64 := by
  simp [StoredLine.rawWord, h, Written.word]

/-- A poison word as it stands: zero data bits, with the bits in error inverted (R5). -/
theorem StoredLine.rawWord_poison (l : StoredLine) (w : Nat) (h : l.written = .poison) :
    l.rawWord w = (errWord l.errs w).setWidth 64 := by
  simp [StoredLine.rawWord, h, Written.word]

/-- A line without bits in error has none in any word. -/
theorem errWord_zero (w : Nat) : errWord 0 w = 0 := by
  simp [errWord]

/-- The line outcomes of eight equal words (R7). -/
theorem lineOutcome_const : lineOutcome (fun _ => .clean) = .clean ∧ lineOutcome (fun _ => .poison) = .poisoned := by
  decide

/-- The masks of no word and of every word. -/
theorem wordMaskOf_const : wordMaskOf (fun _ => false) = 0 ∧ wordMaskOf (fun _ => true) = 0xFF := by decide

/-- Undamaged data reads CLEAN and as it was written, decoded or raw (R5 to R7). -/
theorem StoredLine.reads_data (d : LineData) :
    let l : StoredLine := { written := .data d, errs := 0 }
    l.decoded.outcome = .clean ∧ l.decoded.data = d ∧ l.decoded.corrected = 0 ∧ l.decoded.errors = 0 ∧
    l.raw = d := by
  intro l
  have raw : l.raw = d := by
    refine line_ext _ _ fun w hw => ?_
    rw [l.lineWord_raw w hw, l.rawWord_data d w rfl, errWord_zero]
    simp
  have words : l.decodeWord = fun w => (.clean, lineWord d w) := by
    funext w
    exact l.decodeWord_clean d w rfl (by rw [errWord_zero, errWeight_zero])
  have data : l.decoded.data = d := by
    refine line_ext _ _ fun w hw => ?_
    rw [StoredLine.decoded, LineRead.lineWord_ofWords _ w hw, words]
  refine ⟨?_, data, ?_, ?_, raw⟩ <;>
    simp [StoredLine.decoded, LineRead.ofWords, words, lineOutcome_const, wordMaskOf_const]

/-- Undamaged poison reads POISON in every word and zero data bits (R5 to R7). -/
theorem StoredLine.reads_poison :
    let l : StoredLine := { written := .poison, errs := 0 }
    l.decoded.outcome = .poisoned ∧ l.decoded.data = 0 ∧ l.decoded.corrected = 0 ∧ l.decoded.errors = 0xFF ∧
    l.raw = 0 := by
  intro l
  have rawWord : l.rawWord = fun _ => 0 := by
    funext w
    rw [l.rawWord_poison w rfl, errWord_zero]
    simp
  have words : l.decodeWord = fun _ => (.poison, 0) := by
    funext w
    rw [l.decodeWord_poison w rfl (by rw [errWord_zero, errWeight_zero]), rawWord]
  have raw : l.raw = 0 := by
    refine line_ext _ _ fun w hw => ?_
    rw [l.lineWord_raw w hw, rawWord]
    simp [lineWord]
  have data : l.decoded.data = 0 := by
    refine line_ext _ _ fun w hw => ?_
    rw [StoredLine.decoded, LineRead.lineWord_ofWords _ w hw, words]
    simp [lineWord]
  refine ⟨?_, data, ?_, ?_, raw⟩ <;>
    simp [StoredLine.decoded, LineRead.ofWords, words, lineOutcome_const, wordMaskOf_const]

/-- Settles O50: the stored bits after a cell fault, and the reads of a word by the weight of its bits in error. -/
theorem arrayCellFaults : Obligations.ArrayCellFaults := by
  refine ⟨fun s phys word bits => ⟨exec_arrayCellFault_fault s phys word bits, fun hp hw => ⟨fun undefined => ?_,
    fun l stored => ?_⟩⟩, fun u phys l stored => ?_⟩
  · rw [exec_arrayCellFault_next s phys word bits hp hw, State.cellFault_of_undefined _ phys word bits undefined]
  · refine ⟨_, l.damage word bits, exec_arrayCellFault_next s phys word bits hp hw, ?_⟩
    rw [State.cellFault_of_stored _ phys word bits l stored]
    exact ⟨rfl, by simp, rfl, fun w hw => errWord_or_errBits l.errs word w bits hw, fun q hq => by simp [hq]⟩
  · obtain ⟨decoded, raw⟩ := u.reads_of_stored phys l stored
    rw [decoded, raw]
    intro r errs one two more gives heavy
    have gives_iff : ∀ w < 8, ∀ o x, gives w o x ↔ l.decodeWord w = (o, x) := l.decoded_gives_iff
    have weightZero : ∀ w, errs w = 0 → errWeight (errs w) = 0 := fun w e => by rw [e, errWeight_zero]
    have weightOne : ∀ w, one w → errWeight (errs w) = 1 := fun w ⟨b, hb, e⟩ => by rw [e, errWeight_one b hb]
    have weightTwo : ∀ w, two w → errWeight (errs w) = 2 := fun w ⟨b, hb, c, hc, e⟩ => by
      rw [e, errWeight_two b c hb hc]
    have weightMore : ∀ w, more w → 3 ≤ errWeight (errs w) := fun w ⟨b, hb, c, hc, d, hd, x, y, z⟩ =>
      errWeight_three _ b c d hb hc hd x y z
    refine ⟨fun d hd w hw => ?_, fun hp w hw => ?_, fun d e => ?_, fun e => ?_⟩
    · have asStored := l.rawWord_data d w hd
      refine ⟨fun e => (gives_iff w hw _ _).2 (l.decodeWord_clean d w hd (weightZero w e)),
        fun e => (gives_iff w hw _ _).2 (l.decodeWord_single d w hd (weightOne w e)),
        fun e => (gives_iff w hw _ _).2 ?_, fun e => l.decoded_heavy w hw false _ _ ?_, ?_⟩
      · rw [l.decodeWord_multi d w hd (weightTwo w e), asStored]
      · rw [l.decodeWord_heavy d w hd (weightMore w e), asStored]
      · rw [l.lineWord_raw w hw, asStored]
    · have asStored := l.rawWord_poison w hp
      refine ⟨fun e => (gives_iff w hw _ _).2 ?_, fun e => (gives_iff w hw _ _).2 ?_,
        fun e => (gives_iff w hw _ _).2 ?_, fun e => l.decoded_heavy w hw true _ _ ?_, ?_⟩
      · rw [l.decodeWord_poison w hp (weightZero w e), asStored, show errWord l.errs w = 0 from e]
        rfl
      · rw [l.decodeWord_poison_hit w hp (weightOne w e), asStored]
      · rw [l.decodeWord_poison_two w hp (weightTwo w e), asStored]
      · rw [l.decodeWord_poison_heavy w hp (weightMore w e), asStored]
      · rw [l.lineWord_raw w hw, asStored]
    · subst e
      exact StoredLine.reads_data d
    · subst e
      exact StoredLine.reads_poison

end Sys2Proof.Machine
end

section
/-!
PROOFS. Writes to the two configuration words ARRAY_CFG (R1) and SUSPECT_CFG (R97), taken and ignored.
-/

namespace Sys2Proof.Machine

/-- The array size is open exactly in UNINIT while no remap entry and no region exists (R1). -/
theorem State.sizeOpen_iff (s : State) :
    s.sizeOpen = true ↔ s.ctl.state = .uninit ∧ s.lrt.entries = [] ∧ s.regions.valid = [] := by
  simp [State.sizeOpen, RemapTable.entries, RegionTable.valid, List.filterMap_eq_nil_iff, and_assoc]

/-- An open array size takes the size that a code names (R1). -/
theorem State.writeArrayCfg_taken (s : State) (v : Word32) (z : ArraySize) (h : s.sizeOpen = true)
    (c : ArraySize.ofCode (v.extractLsb' 0 3).toNat = some z) :
    s.writeArrayCfg v = { s with aif := { s.aif with size := z } } := by
  simp only [State.writeArrayCfg, h, c, ↓reduceIte]
  rfl

/-- A write to a size that is not open, or of a code that names none, is ignored (R1). -/
theorem State.writeArrayCfg_ignored (s : State) (v : Word32)
    (h : ¬ s.sizeOpen = true ∨ ArraySize.ofCode (v.extractLsb' 0 3).toNat = none) : s.writeArrayCfg v = s := by
  unfold State.writeArrayCfg
  split
  next free =>
    have none : ArraySize.ofCode (v.extractLsb' 0 3).toNat = none := h.resolve_left (not_not_intro free)
    rw [none]
  · rfl

/-- A threshold out of 1 to 15 is ignored (R97). -/
theorem State.writeSuspectCfg_ignored (s : State) (v : Word32)
    (h : (v.extractLsb' 0 8).toNat = 0 ∨ 15 < (v.extractLsb' 0 8).toNat) : s.writeSuspectCfg v = s :=
  if_neg (by omega)

/-- A threshold from 1 to 15 is taken (R97). -/
theorem State.writeSuspectCfg_taken (s : State) (v : Word32) (low : 1 ≤ (v.extractLsb' 0 8).toNat)
    (high : (v.extractLsb' 0 8).toNat ≤ 15) : s.writeSuspectCfg v = s.setThreshold (v.extractLsb' 0 8).toNat :=
  if_pos ⟨low, high⟩

/-- Settles O46: a full write outside reset is the word's own write, taken or ignored; every other write is ignored. -/
theorem configurationWrites : Obligations.ConfigurationWrites := by
  refine ⟨fun _ => rfl, fun _ _ _ => rfl, ?_, ?_⟩
  · intro s v be u h
    exact ⟨congrArg _ (u.busWrite_ignored .arrayCfg be v h), congrArg _ (u.busWrite_ignored .suspectCfg be v h)⟩
  · intro s v u porst wrst free n
    have array : exec (.arrayCfgWrite 15 v) s = .next (u.writeArrayCfg v) :=
      congrArg _ (u.busWrite_full .arrayCfg v porst wrst)
    have suspect : exec (.suspectCfgWrite 15 v) s = .next (u.writeSuspectCfg v) :=
      congrArg _ (u.busWrite_full .suspectCfg v porst wrst)
    rw [array, suspect]
    refine ⟨fun z h c => ?_, fun h => ?_, fun h => ?_, fun low high => ?_⟩
    · rw [u.writeArrayCfg_taken v z (u.sizeOpen_iff.2 h) c]
    · rw [u.writeArrayCfg_ignored v (h.imp_left (mt u.sizeOpen_iff.1))]
    · rw [u.writeSuspectCfg_ignored v h]
    · rw [u.writeSuspectCfg_taken v low high]
      rfl

end Sys2Proof.Machine
end

section
/-!
PROOFS. The books of the remap table: what filling a slot and replacing an entry make of the table's entries (R18), how
the HELD spares follow the table's references (R19, R25), and what each remap operation does to both (R30 to R37).
-/

namespace Sys2Proof.Machine

/-! ## The entries of the table (R18, R19) -/

/-- Filling the lowest empty slot adds its entry to the table's entries (R18). -/
theorem fillLowest_entries (es : List (Option RemapEntry)) (e : RemapEntry) (h : none ∈ es) :
    ((fillLowest es e).filterMap id).Perm (e :: es.filterMap id) := by
  induction es with
  | nil => cases h
  | cons x xs ih =>
    cases x with
    | none => simp [fillLowest]
    | some x =>
      have later : none ∈ xs := by simpa using h
      simpa [fillLowest] using ((ih later).cons x).trans (.swap e x _)

/-- A found entry and the rest of the table; a replacement takes the found entry's place beside the same rest (R18). -/
theorem replaceEntry_entries (es : List (Option RemapEntry)) (line : Nat) (e : RemapEntry)
    (h : findEntry es line = some e) :
    ∃ rest : List RemapEntry, (es.filterMap id).Perm (e :: rest) ∧
      ∀ r : Option RemapEntry, ((replaceEntry es line r).filterMap id).Perm (r.toList ++ rest) := by
  induction es with
  | nil => cases h
  | cons x xs ih =>
    cases x with
    | none =>
      obtain ⟨rest, found, put⟩ := ih h
      exact ⟨rest, by simpa using found, fun r => by simpa [replaceEntry] using put r⟩
    | some x =>
      simp only [findEntry] at h
      split at h
      next same =>
        cases h
        refine ⟨xs.filterMap id, by simp, fun r => ?_⟩
        cases r <;> simp [replaceEntry, same]
      next other =>
        obtain ⟨rest, found, put⟩ := ih h
        refine ⟨x :: rest, by simpa using (found.cons x).trans (.swap e x rest), fun r => ?_⟩
        simpa [replaceEntry, other] using ((put r).cons x).trans List.perm_middle.symm

/-- With one entry to a line, the found entry is the entry of the line (R19). -/
theorem findEntry_eq_some_iff (es : List (Option RemapEntry)) (line : Nat) (e : RemapEntry)
    (one : ((es.filterMap id).map (fun x => x.line)).Nodup) :
    findEntry es line = some e ↔ e ∈ es.filterMap id ∧ e.line = line := by
  constructor
  · intro h
    simpa using findEntry_some es line e h
  · rintro ⟨mem, rfl⟩
    cases found : findEntry es e.line with
    | none => exact absurd rfl (findEntry_none es e.line found e (by simpa using mem))
    | some x =>
      obtain ⟨place, line⟩ := findEntry_some es e.line x found
      rw [List.inj_on_of_nodup_map one (by simpa using place) mem line]

/-- A line without an entry among the table's entries is not found. -/
theorem findEntry_eq_none_iff (es : List (Option RemapEntry)) (line : Nat) :
    findEntry es line = none ↔ ∀ e ∈ es.filterMap id, e.line ≠ line := by
  constructor
  · intro h e mem
    exact findEntry_none es line h e (by simpa using mem)
  · intro h
    cases found : findEntry es line with
    | none => rfl
    | some x =>
      obtain ⟨place, same⟩ := findEntry_some es line x found
      exact absurd same (h x (by simpa using place))

/-- Replacing an entry by one of its line, or removing it, keeps one entry to a line (R19). -/
theorem replaceEntry_lines (es : List (Option RemapEntry)) (line : Nat) (e : RemapEntry) (r : Option RemapEntry)
    (one : ((es.filterMap id).map (fun x => x.line)).Nodup) (h : findEntry es line = some e)
    (hr : ∀ x ∈ r, x.line = line) : (((replaceEntry es line r).filterMap id).map (fun x => x.line)).Nodup := by
  obtain ⟨rest, found, put⟩ := replaceEntry_entries es line e h
  have line_e : e.line = line := (findEntry_some es line e h).2
  rw [((put r).map _).nodup_iff]
  rw [(found.map _).nodup_iff, List.map_cons, List.nodup_cons] at one
  obtain ⟨apart, one⟩ := one
  cases r with
  | none => simpa using one
  | some x => simpa [hr x rfl, ← line_e, one] using apart

/-- What a replacement leaves to be found: itself at its line, and every other line's entry (R18, R19). -/
theorem findEntry_replaceEntry (es : List (Option RemapEntry)) (line l : Nat) (e : RemapEntry) (r : Option RemapEntry)
    (one : ((es.filterMap id).map (fun x => x.line)).Nodup) (h : findEntry es line = some e)
    (hr : ∀ x ∈ r, x.line = line) :
    findEntry (replaceEntry es line r) l = if l = line then r else findEntry es l := by
  obtain ⟨rest, found, put⟩ := replaceEntry_entries es line e h
  have line_e : e.line = line := (findEntry_some es line e h).2
  have apart : ∀ x ∈ rest, x.line ≠ line := by
    rw [(found.map _).nodup_iff, List.map_cons, List.nodup_cons, line_e] at one
    intro x mem same
    exact one.1 (List.mem_map.2 ⟨x, mem, same⟩)
  have now : ∀ x, x ∈ (replaceEntry es line r).filterMap id ↔ x ∈ r ∨ x ∈ rest := by
    intro x
    rw [(put r).mem_iff]
    simp
  have before : ∀ x, x ∈ es.filterMap id ↔ x = e ∨ x ∈ rest := by
    intro x
    rw [found.mem_iff, List.mem_cons]
  ext x
  rw [findEntry_eq_some_iff _ _ _ (replaceEntry_lines es line e r one h hr), now]
  split
  next same =>
    subst same
    constructor
    · rintro ⟨here | there, at_line⟩
      · exact here
      · exact absurd at_line (apart x there)
    · intro here
      exact ⟨.inl here, hr x here⟩
  next other =>
    rw [findEntry_eq_some_iff _ _ _ one, before]
    constructor
    · rintro ⟨here | there, rfl⟩
      · exact absurd (hr x here) other
      · exact ⟨.inr there, rfl⟩
    · rintro ⟨rfl | there, rfl⟩
      · exact absurd line_e other
      · exact ⟨.inr there, rfl⟩

/-! ## HELD spares and references (R19, R25) -/

/-- The HELD spares are the listed ones, each listed once. -/
def SparePool.accounts (p : SparePool) (refs : List Nat) : Prop := refs.Nodup ∧ ∀ n, n ∈ refs ↔ p.get n = .held

/-- A spare that is not BAD has a number of the pool. -/
theorem SparePool.lt_of_get (p : SparePool) (n : Nat) (h : p.get n ≠ .bad) : n < p.spares.length := by
  by_contra out
  exact h (List.getD_eq_default _ _ (by omega))

theorem SparePool.mem_heldNumbers (p : SparePool) (n : Nat) : n ∈ p.heldNumbers ↔ p.get n = .held := by
  simp only [SparePool.heldNumbers, List.mem_filter, List.mem_range, beq_iff_eq, and_iff_right_iff_imp]
  intro held
  exact p.lt_of_get n (by simp [held])

/-- The references of the table are the HELD spares, in any order, as the invariant says it (R19, R25). -/
theorem SparePool.perm_heldNumbers_iff (p : SparePool) (refs : List Nat) :
    refs.Perm p.heldNumbers ↔ p.accounts refs := by
  have once : p.heldNumbers.Nodup := List.nodup_range.filter _
  constructor
  · intro h
    exact ⟨h.nodup_iff.2 once, fun n => by rw [h.mem_iff, p.mem_heldNumbers]⟩
  · rintro ⟨nodup, mem⟩
    exact (List.perm_ext_iff_of_nodup nodup once).2 fun n => by rw [mem, p.mem_heldNumbers]

/-- The state of a spare after one changes. -/
theorem SparePool.get_set (p : SparePool) (n m : Nat) (x : SpareState) (h : n < p.spares.length) :
    ({ p with spares := p.spares.set n x } : SparePool).get m = if m = n then x else p.get m := by
  by_cases same : m = n
  · subst same
    simp [SparePool.get, h]
  · simp [SparePool.get, same, List.getD_eq_getElem?_getD, List.getElem?_set_ne (Ne.symm same)]

theorem SparePool.accounts_perm (p : SparePool) {a b : List Nat} (h : a.Perm b) : p.accounts a ↔ p.accounts b := by
  simp only [SparePool.accounts, h.nodup_iff, h.mem_iff]

/-- A FREE spare that becomes HELD needs one reference more (R25, R26). -/
theorem SparePool.accounts_take (p : SparePool) (refs : List Nat) (n : Nat) (h : p.accounts refs)
    (free : p.get n = .free) : ({ p with spares := p.spares.set n .held } : SparePool).accounts (n :: refs) := by
  obtain ⟨nodup, mem⟩ := h
  have fresh : n ∉ refs := by simp [mem, free]
  refine ⟨List.nodup_cons.2 ⟨fresh, nodup⟩, fun m => ?_⟩
  rw [p.get_set n m _ (p.lt_of_get n (by simp [free])), List.mem_cons, mem]
  split
  next same => simp [same]
  next other => simp [other]

/-- A HELD spare that becomes FREE or BAD loses its reference (R25, R27). -/
theorem SparePool.accounts_drop (p : SparePool) (refs : List Nat) (n : Nat) (x : SpareState) (unheld : x ≠ .held)
    (h : p.accounts (n :: refs)) : ({ p with spares := p.spares.set n x } : SparePool).accounts refs := by
  obtain ⟨nodup, mem⟩ := h
  obtain ⟨fresh, nodup⟩ := List.nodup_cons.1 nodup
  have held : p.get n = .held := (mem n).1 (by simp)
  refine ⟨nodup, fun m => ?_⟩
  rw [p.get_set n m _ (p.lt_of_get n (by simp [held]))]
  split
  next same => simp [same, fresh, unheld]
  next other => rw [← mem m, List.mem_cons, or_iff_right other]

/-- A FREE spare that becomes BAD has no reference before or after (R37). -/
theorem SparePool.accounts_condemn (p : SparePool) (refs : List Nat) (n : Nat) (h : p.accounts refs)
    (free : p.get n = .free) : ({ p with spares := p.spares.set n .bad } : SparePool).accounts refs := by
  have held := p.accounts_take refs n h free
  simpa using SparePool.accounts_drop _ refs n .bad (by decide) held

/-- The allocated spare is FREE (R26). -/
theorem SparePool.get_lowestFree (p : SparePool) (n : Nat) (h : p.lowestFree = some n) : p.get n = .free := by
  simp [SparePool.get, List.getD_eq_getElem?_getD, (p.lowestFree_some n h).1]

/-! ## The books: table, pool and the line being copied agree (R19, R20, R25) -/

/-- The table has its slots and the pool its spares, one entry to a line, the HELD spares are those the table names,
and the entry in a copying state is that of the line `o` that is being copied, if one is. -/
structure Books (t : RemapTable) (p : SparePool) (o : Option Nat) : Prop where
  slots : t.slots.length = 128
  spares : p.spares.length = 128
  lines : (t.entries.map (fun e => e.line)).Nodup
  held : p.accounts t.refs
  copying : ∀ e ∈ t.entries, (e.state.copying? = true ↔ o = some e.line)
  entry : ∀ l, o = some l → ∃ e ∈ t.entries, e.line = l

theorem State.entryOf_eq_some_iff (s : State) (line : Nat) (e : RemapEntry)
    (one : (s.lrt.entries.map (fun x => x.line)).Nodup) :
    s.entryOf line = some e ↔ e ∈ s.lrt.entries ∧ e.line = line :=
  findEntry_eq_some_iff s.lrt.slots line e one

/-- A line is in a copying state exactly when an entry of it is. -/
theorem State.lineCopying_iff (s : State) (line : Nat) (one : (s.lrt.entries.map (fun x => x.line)).Nodup) :
    s.lineCopying line = true ↔ ∃ e ∈ s.lrt.entries, e.line = line ∧ e.state.copying? = true := by
  unfold State.lineCopying
  split
  next e found =>
    obtain ⟨mem, same⟩ := (s.entryOf_eq_some_iff line e one).1 found
    refine ⟨fun c => ⟨e, mem, same, c⟩, ?_⟩
    rintro ⟨x, mem_x, same_x, c⟩
    have found_x := (s.entryOf_eq_some_iff line x one).2 ⟨mem_x, same_x⟩
    rw [found] at found_x
    cases found_x
    exact c
  next absent =>
    have none_of := (findEntry_eq_none_iff s.lrt.slots line).1 absent
    simp only [Bool.false_eq_true, false_iff, not_exists, not_and]
    intro x mem same
    exact absurd same (none_of x mem)

/-- The invariant of the remap table in terms of the books: the item's line is the one being copied, and the Copy Unit
is IDLE with an invalid buffer exactly without an item (R19, R20, R25). -/
theorem State.remapSound_iff (s : State) :
    s.remapSound ↔ Books s.lrt s.pool (s.copy.item.map (fun i => i.line)) ∧
      (s.copy.state = .idle ↔ s.copy.item = none) ∧ (s.copy.item = none → s.copy.buffer.valid = false) := by
  have linked (one : (s.lrt.entries.map (fun e => e.line)).Nodup) : s.copyLinked = true ↔
      ((∀ e ∈ s.lrt.entries, (e.state.copying? = true ↔ s.copy.item.map (fun i => i.line) = some e.line)) ∧
        ∀ l, s.copy.item.map (fun i => i.line) = some l → ∃ e ∈ s.lrt.entries, e.line = l) ∧
      (s.copy.state = .idle ↔ s.copy.item = none) ∧ (s.copy.item = none → s.copy.buffer.valid = false) := by
    unfold State.copyLinked
    cases item : s.copy.item with
    | none => simp; tauto
    | some i =>
      simp only [Bool.and_eq_true, decide_eq_true_eq, s.lineCopying_iff i.line one, List.all_eq_true, Bool.or_eq_true,
        Bool.not_eq_true', beq_iff_eq, Option.map_some, Option.some.injEq, reduceCtorEq, iff_false, false_implies,
        and_true]
      constructor
      · rintro ⟨⟨busy, e, mem, same, c⟩, only⟩
        refine ⟨⟨fun x mem_x => ⟨fun cx => ?_, fun eq => ?_⟩, ?_⟩, busy⟩
        · exact ((only x mem_x).resolve_left (by simp [cx])).symm
        · rwa [List.inj_on_of_nodup_map one mem_x mem (by rw [same, eq])]
        · rintro l rfl
          exact ⟨e, mem, same⟩
      · rintro ⟨⟨copying, entry⟩, busy⟩
        obtain ⟨e, mem, same⟩ := entry i.line rfl
        refine ⟨⟨busy, e, mem, same, (copying e mem).2 same.symm⟩, fun x mem_x => ?_⟩
        cases c : x.state.copying?
        · exact .inl rfl
        · exact .inr ((copying x mem_x).1 c).symm
  constructor
  · rintro ⟨⟨slots, spares, lines, held⟩, link⟩
    obtain ⟨⟨copying, entry⟩, idle, valid⟩ := (linked lines).1 link
    exact ⟨⟨slots, spares, lines, (s.pool.perm_heldNumbers_iff _).1 held, copying, entry⟩, idle, valid⟩
  · rintro ⟨⟨slots, spares, lines, held, copying, entry⟩, idle, valid⟩
    exact ⟨⟨slots, spares, lines, (s.pool.perm_heldNumbers_iff _).2 held⟩,
      (linked lines).2 ⟨⟨copying, entry⟩, idle, valid⟩⟩

/-- Every entry names a spare (R17). -/
theorem RemapState.refs_pos (x : RemapState) : 1 ≤ x.refs.length := by
  cases x <;> simp [RemapState.refs]

/-- While a spare is FREE the table has an empty slot: every entry names a HELD spare of its own (R18, R19). -/
theorem Books.none_mem_slots {t : RemapTable} {p : SparePool} {o : Option Nat} (h : Books t p o) (n : Nat)
    (free : p.get n = .free) : none ∈ t.slots := by
  by_contra full
  have all : t.entries.length = t.slots.length := by
    have filled : t.slots.filter (fun e => e.isSome) = t.slots := by
      rw [List.filter_eq_self]
      intro e mem
      exact Option.ne_none_iff_isSome.1 fun empty => full (empty ▸ mem)
    simpa [RemapTable.entries, List.length_filterMap_eq_countP, List.countP_eq_length_filter] using
      congrArg List.length filled
  have refs : t.entries.length ≤ t.refs.length := by
    rw [RemapTable.refs, List.length_flatMap]
    simpa using List.length_le_sum_of_one_le (t.entries.map fun e => e.state.refs.length)
      (by simpa using fun (e : RemapEntry) (_ : e ∈ t.entries) => e.state.refs_pos)
  obtain ⟨nodup, mem⟩ := h.held
  have fresh : n ∉ t.refs := by simp [mem, free]
  have inPool : n :: t.refs ⊆ List.range 128 := by
    intro m hm
    rw [List.mem_range, ← h.spares]
    rcases List.mem_cons.1 hm with rfl | hm
    · exact p.lt_of_get m (by simp [free])
    · exact p.lt_of_get m (by simp [(mem m).1 hm])
  have few := ((List.nodup_cons.2 ⟨fresh, nodup⟩).subperm inPool).length_le
  have slots := h.slots
  simp at few
  omega

/-- The spares that an entry names, or none without an entry. -/
def namedBy (r : Option RemapEntry) : List Nat := r.toList.flatMap (fun e => e.state.refs)

/-- The line that an entry puts in a copying state. -/
def copiedBy (r : Option RemapEntry) : Option Nat := (r.filter (fun e => e.state.copying?)).map (fun e => e.line)

@[simp] theorem copiedBy_none : copiedBy none = none := rfl

@[simp] theorem copiedBy_some (e : RemapEntry) :
    copiedBy (some e) = if e.state.copying? then some e.line else none := by
  simp only [copiedBy, Option.filter]
  split <;> rfl

/-- One entry is exchanged for another of its line, or removed, while the spares follow its references; no other line is
being copied (R18, R19, R20). -/
theorem Books.exchange {t : RemapTable} {p q : SparePool} {o : Option Nat} (h : Books t p o) (line : Nat)
    (e : RemapEntry) (r : Option RemapEntry) (g : BitVec 16) (found : findEntry t.slots line = some e)
    (own : o = none ∨ o = some line) (hr : ∀ x ∈ r, x.line = line) (spares : q.spares.length = 128)
    (held : ∀ refs, p.accounts (e.state.refs ++ refs) → q.accounts (namedBy r ++ refs)) :
    Books { slots := replaceEntry t.slots line r, gen := g } q (copiedBy r) := by
  obtain ⟨rest, old, new⟩ := replaceEntry_entries t.slots line e found
  have line_e : e.line = line := (findEntry_some t.slots line e found).2
  have apart : ∀ x ∈ rest, x.line ≠ line := by
    have lines := h.lines
    rw [RemapTable.entries, (old.map _).nodup_iff, List.map_cons, List.nodup_cons, line_e] at lines
    intro x mem same
    exact lines.1 (List.mem_map.2 ⟨x, mem, same⟩)
  have resting : ∀ x ∈ rest, x.state.copying? = false := by
    intro x mem
    have c := h.copying x (old.mem_iff.2 (List.mem_cons_of_mem e mem))
    have := apart x mem
    rcases own with rfl | rfl
    · simpa using c
    · simpa [this.symm] using c
  have mem_new : ∀ x, x ∈ (replaceEntry t.slots line r).filterMap id ↔ x ∈ r ∨ x ∈ rest := by
    intro x
    rw [(new r).mem_iff]
    simp
  refine ⟨by simpa using h.slots, spares, replaceEntry_lines t.slots line e r h.lines found hr, ?_, ?_, ?_⟩
  · have refs_old : t.refs.Perm (e.state.refs ++ rest.flatMap fun e => e.state.refs) := old.flatMap_right _
    have refs_new : RemapTable.refs { slots := replaceEntry t.slots line r, gen := g } |>.Perm
        (namedBy r ++ rest.flatMap fun e => e.state.refs) := by
      rw [namedBy, ← List.flatMap_append]
      exact (new r).flatMap_right _
    exact (q.accounts_perm refs_new).2 (held _ ((p.accounts_perm refs_old).1 h.held))
  · intro x mem
    rcases (mem_new x).1 mem with here | there
    · simp only [Option.mem_def] at here
      subst here
      cases c : x.state.copying? <;> simp [c]
    · rw [resting x there]
      cases r with
      | none => simp
      | some y =>
        have := apart x there
        have line_y := hr y rfl
        rw [copiedBy_some]
        split <;> simp [line_y, this.symm]
  · intro l hl
    cases r with
    | none => cases hl
    | some y =>
      refine ⟨y, (mem_new y).2 (.inl rfl), ?_⟩
      rw [copiedBy_some] at hl
      split at hl
      · simpa using hl
      · cases hl

/-- An entry is created with a FREE spare, which becomes HELD; it may be in a copying state where no line is being
copied (R18, R26, R30, R36). -/
theorem Books.add {t : RemapTable} {p : SparePool} {o : Option Nat} (h : Books t p o) (e : RemapEntry) (n : Nat)
    (g : BitVec 16) (absent : findEntry t.slots e.line = none) (free : p.get n = .free) (refs : e.state.refs = [n])
    (alone : e.state.copying? = true → o = none) :
    Books { slots := fillLowest t.slots e, gen := g } { p with spares := p.spares.set n .held }
      (if e.state.copying? then some e.line else o) := by
  have new := fillLowest_entries t.slots e (h.none_mem_slots n free)
  have apart := (findEntry_eq_none_iff t.slots e.line).1 absent
  have mem_new : ∀ x, x ∈ (fillLowest t.slots e).filterMap id ↔ x = e ∨ x ∈ t.entries := by
    intro x
    rw [new.mem_iff, List.mem_cons, RemapTable.entries]
  refine ⟨by simpa using h.slots, by simpa using h.spares, ?_, ?_, ?_, ?_⟩
  · rw [RemapTable.entries, (new.map _).nodup_iff, List.map_cons, List.nodup_cons]
    refine ⟨fun mem => ?_, h.lines⟩
    obtain ⟨x, mem, same⟩ := List.mem_map.1 mem
    exact apart x mem same
  · have refs_new : RemapTable.refs { slots := fillLowest t.slots e, gen := g } |>.Perm (n :: t.refs) := by
      simpa [RemapTable.refs, RemapTable.entries, refs] using new.flatMap_right fun e : RemapEntry => e.state.refs
    exact (SparePool.accounts_perm _ refs_new).2 (p.accounts_take _ n h.held free)
  · intro x mem
    rcases (mem_new x).1 mem with rfl | there
    · cases c : x.state.copying?
      · have : ∀ l, o = some l → l ≠ x.line := fun l hl same => by
          obtain ⟨y, mem_y, line_y⟩ := h.entry l hl
          exact apart y mem_y (line_y.trans same)
        simpa using fun hl => this _ hl rfl
      · simp
    · rw [h.copying x there]
      split
      next c => simp [alone c, (apart x there).symm]
      next => rfl
  · intro l hl
    split at hl
    next => exact ⟨e, (mem_new e).2 (.inl rfl), by simpa using hl⟩
    next =>
      obtain ⟨y, mem_y, line_y⟩ := h.entry l hl
      exact ⟨y, (mem_new y).2 (.inr mem_y), line_y⟩

/-- The entry of the line that is being copied (R20). -/
theorem Books.copied {s : State} {line : Nat} (h : Books s.lrt s.pool (some line)) :
    ∃ e, s.entryOf line = some e ∧ e.line = line ∧ e.state.copying? = true := by
  obtain ⟨e, mem, same⟩ := h.entry line rfl
  exact ⟨e, (s.entryOf_eq_some_iff line e h.lines).2 ⟨mem, same⟩, same, (h.copying e mem).2 (by rw [same])⟩

/-- While no line is being copied every entry is ACTIVE (R20). -/
theorem Books.active {s : State} (h : Books s.lrt s.pool none) (line : Nat) (e : RemapEntry)
    (found : s.entryOf line = some e) : e.state.copying? = false := by
  obtain ⟨mem, -⟩ := (s.entryOf_eq_some_iff line e h.lines).1 found
  simpa using h.copying e mem

/-! ## The remap operations keep the books (R30 to R35) -/

/-- Beginning a move with the allocated spare: its line is now being copied (R30). -/
theorem State.beginMove_books (s : State) (line : Nat) (origin : RemapOrigin) (n : Nat)
    (h : Books s.lrt s.pool none) (alloc : s.pool.lowestFree = some n) :
    Books (s.beginMove line origin n).lrt (s.beginMove line origin n).pool (some line) := by
  have free := s.pool.get_lowestFree n alloc
  unfold State.beginMove
  split
  next absent =>
    simpa [RemapState.copying?] using h.add { line := line, state := .copying n, origin := origin } n (s.lrt.gen + 1)
      absent free rfl (fun _ => rfl)
  next e found =>
    split
    next c m active =>
      simpa [RemapState.copying?] using h.exchange (q := { s.pool with spares := s.pool.spares.set n .held }) line e
        (some { line := line, state := .moving c n m, origin := origin }) (s.lrt.gen + 1) found (.inl rfl) (by simp)
        (by simpa using h.spares) (fun refs acc => by
          rw [active] at acc
          exact (SparePool.accounts_perm _ (.swap _ _ _)).1 (s.pool.accounts_take _ n acc free))
    all_goals
      rename_i copying
      simpa [copying, RemapState.copying?] using h.active line e found

/-- Beginning a release: its line is now being copied (R31). -/
theorem State.beginRelease_books (s : State) (line c m : Nat) (origin : RemapOrigin) (e : RemapEntry)
    (h : Books s.lrt s.pool none) (found : s.entryOf line = some e) (active : e.state = .active c m) :
    Books (s.putEntry line (some { line := line, state := .releasing c m, origin := origin })).lrt
      (s.putEntry line (some { line := line, state := .releasing c m, origin := origin })).pool (some line) := by
  simpa [RemapState.copying?] using h.exchange (q := s.pool) line e
    (some { line := line, state := .releasing c m, origin := origin })
    (s.lrt.gen + 1) found (.inl rfl) (by simp) h.spares (fun refs acc => by rwa [active] at acc)

/-- Replacing the target of a move by the allocated spare: the line is still being copied (R32). -/
theorem State.replaceTarget_books (s : State) (line failed n : Nat) (h : Books s.lrt s.pool (some line))
    (target : s.targetOf line = some failed) (alloc : s.pool.lowestFree = some n) :
    Books (s.replaceTarget line failed n).lrt (s.replaceTarget line failed n).pool (some line) := by
  obtain ⟨e, found, line_e, copying⟩ := h.copied
  have free := s.pool.get_lowestFree n alloc
  have follow : ∀ refs, s.pool.accounts (failed :: refs) →
      ({ s.pool with spares := (s.pool.spares.set failed .bad).set n .held } : SparePool).accounts (n :: refs) := by
    intro refs acc
    have held : s.pool.get failed = .held := (acc.2 failed).1 (by simp)
    have other : n ≠ failed := fun same => by simp [same, held] at free
    refine SparePool.accounts_take _ refs n (s.pool.accounts_drop refs failed .bad (by decide) acc) ?_
    rw [s.pool.get_set failed n _ (s.pool.lt_of_get failed (by simp [held])), if_neg other, free]
  simp only [State.targetOf, found] at target
  unfold State.replaceTarget
  simp only [found]
  cases state : e.state with
  | active c m => simp [state, RemapState.copying?] at copying
  | releasing c m => simp [state, RemapState.target?] at target
  | copying t =>
    simp only [state, RemapState.target?, Option.some.injEq] at target
    subst target
    simpa [RemapState.copying?, line_e] using
      h.exchange (q := { s.pool with spares := (s.pool.spares.set t .bad).set n .held }) line e
      (some { e with state := .copying n }) (s.lrt.gen + 1) found (.inr rfl) (by simpa using line_e)
      (by simpa using h.spares) (fun refs acc => by rw [state] at acc; exact follow refs acc)
  | moving c t m =>
    simp only [state, RemapState.target?, Option.some.injEq] at target
    subst target
    simpa [RemapState.copying?, line_e] using
      h.exchange (q := { s.pool with spares := (s.pool.spares.set t .bad).set n .held }) line e
      (some { e with state := .moving c n m }) (s.lrt.gen + 1) found (.inr rfl) (by simpa using line_e)
      (by simpa using h.spares) (fun refs acc => by
        rw [state] at acc
        have front := (s.pool.accounts_perm (.swap t c refs)).1 acc
        exact (SparePool.accounts_perm _ (.swap c n refs)).1 (follow (c :: refs) front))

/-- A commit leaves no line being copied (R33, R34). -/
theorem State.commitEntry_books (s : State) (line : Nat) (h : Books s.lrt s.pool (some line)) :
    Books (s.commitEntry line).lrt (s.commitEntry line).pool none := by
  obtain ⟨e, found, line_e, copying⟩ := h.copied
  unfold State.commitEntry
  simp only [found]
  cases state : e.state with
  | active c m => simp [state, RemapState.copying?] at copying
  | copying t =>
    simpa [RemapState.copying?] using h.exchange (q := s.pool) line e (some { e with state := .active t 1 })
      (s.lrt.gen + 1) found (.inr rfl)
      (by simpa using line_e) h.spares (fun refs acc => by rwa [state] at acc)
  | moving c t m =>
    simpa [RemapState.copying?] using h.exchange (q := { s.pool with spares := s.pool.spares.set c .free }) line e
      (some { e with state := .active t (min (m + 1) 255) }) (s.lrt.gen + 1) found (.inr rfl) (by simpa using line_e)
      (by simpa using h.spares) (fun refs acc => by
        rw [state] at acc
        exact s.pool.accounts_drop (t :: refs) c .free (by decide) acc)
  | releasing c m =>
    simpa [RemapState.copying?] using h.exchange (q := { s.pool with spares := s.pool.spares.set c .free }) line e none
      (s.lrt.gen + 1) found (.inr rfl) (by simp) (by simpa using h.spares) (fun refs acc => by
        rw [state] at acc
        exact s.pool.accounts_drop refs c .free (by decide) acc)

/-- An abort leaves no line being copied (R35). -/
theorem State.abortEntry_books (s : State) (line : Nat) (x : SpareState) (unheld : x ≠ .held)
    (h : Books s.lrt s.pool (some line)) : Books (s.abortEntry line x).lrt (s.abortEntry line x).pool none := by
  obtain ⟨e, found, line_e, copying⟩ := h.copied
  unfold State.abortEntry
  simp only [found]
  cases state : e.state with
  | active c m => simp [state, RemapState.copying?] at copying
  | copying t =>
    simpa [RemapState.copying?] using h.exchange (q := { s.pool with spares := s.pool.spares.set t x }) line e none
      (s.lrt.gen + 1) found (.inr rfl) (by simp) (by simpa using h.spares) (fun refs acc => by
        rw [state] at acc
        exact s.pool.accounts_drop refs t x unheld acc)
  | moving c t m =>
    simpa [RemapState.copying?] using h.exchange (q := { s.pool with spares := s.pool.spares.set t x }) line e
      (some { e with state := .active c m }) (s.lrt.gen + 1) found (.inr rfl) (by simpa using line_e)
      (by simpa using h.spares) (fun refs acc => by
        rw [state] at acc
        exact s.pool.accounts_drop (c :: refs) t x unheld ((s.pool.accounts_perm (.swap t c refs)).1 acc))
  | releasing c m =>
    simpa [RemapState.copying?] using h.exchange (q := s.pool) line e (some { e with state := .active c m })
      (s.lrt.gen + 1) found (.inr rfl)
      (by simpa using line_e) h.spares (fun refs acc => by rwa [state] at acc)

end Sys2Proof.Machine
end

section
/-!
PROOFS. Every step keeps the remap table, the spares and the Copy Unit in agreement (R19, R20, R25): the Copy Unit's
ways through an item, then the engine, the commands and the resets.
-/

namespace Sys2Proof.Machine

/-! ## States with the same table, pool and item -/

theorem Books.of_spares {t : RemapTable} {p q : SparePool} {o : Option Nat} (h : Books t p o)
    (e : q.spares = p.spares) : Books t q o := by
  have get : ∀ n, q.get n = p.get n := fun n => by rw [SparePool.get, SparePool.get, e]
  obtain ⟨slots, spares, lines, ⟨nodup, mem⟩, copying, entry⟩ := h
  exact ⟨slots, e ▸ spares, lines, ⟨nodup, fun n => by rw [get, mem]⟩, copying, entry⟩

/-- A change that leaves the table, the spares and the current item, and the Copy Unit IDLE or busy, keeps the
agreement. -/
theorem State.remapSound_of_item {s t : State} (h : s.remapSound) (lrt : t.lrt = s.lrt)
    (pool : t.pool.spares = s.pool.spares) (item : t.copy.item = s.copy.item)
    (idle : t.copy.state = .idle ↔ s.copy.state = .idle)
    (valid : s.copy.item = none → t.copy.buffer.valid = s.copy.buffer.valid) : t.remapSound := by
  obtain ⟨books, idle_s, valid_s⟩ := s.remapSound_iff.1 h
  rw [State.remapSound_iff, lrt, item, idle]
  exact ⟨books.of_spares pool, idle_s, fun none => by rw [valid none, valid_s none]⟩

/-- A change of other blocks keeps the agreement. -/
theorem State.remapSound_of_eq {s t : State} (h : s.remapSound) (lrt : t.lrt = s.lrt) (pool : t.pool = s.pool)
    (copy : t.copy = s.copy) : t.remapSound :=
  s.remapSound_of_item h lrt (by rw [pool]) (by rw [copy]) (by rw [copy]) (fun _ => by rw [copy])

/-- With an item the Copy Unit is not IDLE (R40). -/
theorem State.copy_busy {s : State} (h : s.remapSound) {i : RetireItem} (item : s.copy.item = some i) :
    s.copy.state ≠ .idle := by
  obtain ⟨-, idle, -⟩ := s.remapSound_iff.1 h
  simp [idle, item]

/-- The current item's line is the one that is being copied (R20). -/
theorem State.books_of_item {s : State} (h : s.remapSound) {i : RetireItem} (item : s.copy.item = some i) :
    Books s.lrt s.pool (some i.line) := by
  obtain ⟨books, -⟩ := s.remapSound_iff.1 h
  simpa [item] using books

/-- An IDLE Copy Unit has no item, and no line is being copied (R20, R40). -/
theorem State.books_of_idle {s : State} (h : s.remapSound) (idle : s.copy.state = .idle) :
    s.copy.item = none ∧ Books s.lrt s.pool none := by
  obtain ⟨books, idle_iff, -⟩ := s.remapSound_iff.1 h
  have item := idle_iff.1 idle
  exact ⟨item, by simpa [item] using books⟩

/-! ## The Copy Unit's work on an item (R42 to R53) -/

theorem State.issueTarget_remapSound (s : State) (h : s.remapSound) : s.issueTarget.remapSound := by
  unfold State.issueTarget
  split
  · exact h
  next i item =>
    have busy := s.copy_busy h item
    split
    · exact s.remapSound_of_item h (by simp) (by simp) (by simp) (by simp [busy]) (by simp)
    · exact s.remapSound_of_item h (by simp) (by simp) (by simp) (by simp [busy]) (by simp)

theorem State.issueVerify_remapSound (s : State) (h : s.remapSound) : s.issueVerify.remapSound := by
  unfold State.issueVerify
  split
  · exact h
  next i item => exact s.remapSound_of_item h (by simp) (by simp) (by simp) (by simp [s.copy_busy h item]) (by simp)

/-- The Copy Unit leaves IDLE with an item whose line is now being copied (R42, R43). -/
theorem State.begin_remapSound (s : State) (i : RetireItem) (h : Books s.lrt s.pool (some i.line)) :
    (s.setCopy (s.copy.begin_ i)).remapSound := by
  rw [State.remapSound_iff]
  simpa [CopyUnit.begin_] using h

/-- An item ends when no line is being copied any more (R53). -/
theorem State.endItem_remapSound (s : State) (i : RetireItem) (r : CmdResult) (h : Books s.lrt s.pool none) :
    (s.endItem i r).remapSound := by
  rw [State.remapSound_iff]
  simpa [State.endItem, CopyUnit.ended] using h

theorem State.startMove_remapSound (s : State) (i : RetireItem) (h : s.remapSound) (idle : s.copy.state = .idle) :
    (s.startMove i).remapSound := by
  obtain ⟨-, books⟩ := s.books_of_idle h idle
  unfold State.startMove
  split
  · exact h
  · split
    · exact s.remapSound_of_eq h (by simp) (by simp) (by simp)
    next n alloc => exact State.begin_remapSound _ i (s.beginMove_books i.line i.origin.remap n books alloc)

theorem State.startRelease_remapSound (s : State) (i : RetireItem) (h : s.remapSound) (idle : s.copy.state = .idle) :
    (s.startRelease i).remapSound := by
  obtain ⟨-, books⟩ := s.books_of_idle h idle
  unfold State.startRelease
  split
  · exact s.remapSound_of_eq h (by simp) (by simp) (by simp)
  next e found =>
    split
    next c m active =>
      exact State.begin_remapSound _ i (s.beginRelease_books i.line c m i.origin.remap e books found active)
    all_goals exact s.remapSound_of_eq h (by simp) (by simp) (by simp)

/-- An IDLE Copy Unit takes an item (R41). -/
theorem State.startItem_remapSound (s : State) (h : s.remapSound) (idle : s.copy.state = .idle) :
    s.startItem.remapSound := by
  unfold State.startItem
  split
  · exact h
  next i rest _ =>
    have taken : ((s.setRtq rest).setCopy { s.copy with itemNo := s.copy.itemNo + 1 }).remapSound :=
      s.remapSound_of_item h rfl rfl rfl .rfl (fun _ => rfl)
    cases i.action with
    | move => exact State.remapSound_of_eq (State.startMove_remapSound _ i taken idle) (by simp) (by simp) (by simp)
    | release => exact State.remapSound_of_eq (State.startRelease_remapSound _ i taken idle) (by simp) (by simp) (by simp)

theorem State.commit_remapSound (s : State) (i : RetireItem) (h : s.remapSound) (item : s.copy.item = some i) :
    (s.commit i).remapSound := by
  have books := s.commitEntry_books i.line (s.books_of_item h item)
  unfold State.commit
  split <;> exact State.endItem_remapSound _ i _ (by simpa using books)

theorem State.moveVerifyFailed_remapSound (s : State) (i : RetireItem) (n : Nat) (h : s.remapSound)
    (item : s.copy.item = some i) (target : s.targetOf i.line = some n) : (s.moveVerifyFailed i n).remapSound := by
  have books : Books (s.offer (spareBadRecord i.line n)).lrt (s.offer (spareBadRecord i.line n)).pool (some i.line) := by
    simpa using s.books_of_item h item
  have aborted := State.abortEntry_books _ i.line .bad (by decide) books
  unfold State.moveVerifyFailed
  dsimp only
  split
  · split
    next m alloc =>
      refine State.issueTarget_remapSound _ ?_
      have still : (s.offer (spareBadRecord i.line n)).targetOf i.line = some n := by
        rw [← target]
        simp [State.targetOf, State.entryOf]
      have replaced := State.replaceTarget_books _ i.line n m books still alloc
      rw [State.remapSound_iff]
      simpa [item, s.copy_busy h item] using replaced
    next => exact State.endItem_remapSound _ i _ (by simpa using aborted)
  · exact State.endItem_remapSound _ i _ (by simpa using aborted)

theorem State.releaseVerifyFailed_remapSound (s : State) (i : RetireItem) (h : s.remapSound)
    (item : s.copy.item = some i) : (s.releaseVerifyFailed i).remapSound := by
  have aborted := s.abortEntry_books i.line .free (by decide) (s.books_of_item h item)
  exact State.endItem_remapSound _ i _ (by simpa using aborted)

theorem State.verifyGood_remapSound (s : State) (i : RetireItem) (h : s.remapSound) (item : s.copy.item = some i) :
    (s.verifyGood i).remapSound := by
  unfold State.verifyGood
  split
  · split <;>
      exact State.issueTarget_remapSound _ (s.remapSound_of_item h rfl rfl rfl .rfl (fun _ => rfl))
  · exact s.commit_remapSound i h item

/-- The verify read of the current item completes (R48 to R52). -/
theorem State.verifyOutcome_remapSound (s : State) (i : RetireItem) (o : LineOutcome) (h : s.remapSound)
    (item : s.copy.item = some i) : (s.verifyOutcome i o).remapSound := by
  unfold State.verifyOutcome State.verifyFailed
  split
  · exact s.verifyGood_remapSound i h item
  · split
    next n target => exact s.moveVerifyFailed_remapSound i n h item target
    next => exact s.releaseVerifyFailed_remapSound i h item

theorem State.copyHalt_remapSound (s : State) (h : s.remapSound) : s.copyHalt.remapSound := by
  unfold State.copyHalt
  split
  · exact h
  next i item =>
    exact State.endItem_remapSound _ i _ (s.abortEntry_books i.line .free (by decide) (s.books_of_item h item))

/-! ## Halts, issues and due steps -/

/-- Of the effects of an entry to HALTED the abort of the item alone touches the remap table (R54). -/
theorem State.haltWork_remapSound (s : State) (h : s.remapSound) :
    s.haltPorts.haltTable.copyHalt.patrolHalt.haltRtq.haltStop.remapSound := by
  have answered : s.haltPorts.haltTable.remapSound := s.remapSound_of_eq h (by simp) (by simp) (by simp)
  exact State.remapSound_of_eq (State.copyHalt_remapSound _ answered) (by simp) (by simp) (by simp)

theorem State.haltOnUe_remapSound (s : State) (line : Nat) (h : s.remapSound) : (s.haltOnUe line).remapSound := by
  unfold State.haltOnUe
  split
  · exact State.haltWork_remapSound _ (s.remapSound_of_eq h (by simp) (by simp) (by simp))
  · exact h

/-- The issue of an entry changes of the Copy Unit at most the bytes and the marker of its buffer (R58, R59). -/
@[simp] theorem State.issueEntry_item (s : State) (k : Nat) :
    (s.issueEntry k).copy.item = s.copy.item ∧ (s.issueEntry k).copy.state = s.copy.state ∧
    (s.issueEntry k).copy.buffer.valid = s.copy.buffer.valid := by
  unfold State.issueEntry State.issueBufferWrite State.mergeWrite
  (repeat' split) <;> simp

theorem State.issueEntry_remapSound (s : State) (k : Nat) (h : s.remapSound) : (s.issueEntry k).remapSound :=
  s.remapSound_of_item h (by simp) (by simp) (by simp) (by simp) (by simp)

theorem issueDue_remapSound (n : Nat) (s : State) (h : s.remapSound) : (issueDue n s).remapSound := by
  induction n generalizing s with
  | zero => exact h
  | succ n ih =>
    simp only [issueDue]
    split
    · exact h
    next k _ => exact ih _ (s.issueEntry_remapSound k h)

theorem State.settleIssues_remapSound (s : State) (h : s.remapSound) : s.settleIssues.remapSound :=
  issueDue_remapSound _ s h

/-- An item starts only with the Copy Unit IDLE (R41). -/
theorem State.idle_of_startDue (s : State) (h : s.startDue = true) :
    s.copy.state = .idle ∧ s.ctl.state = .running := by
  simp only [State.startDue, Bool.and_eq_true, decide_eq_true_eq] at h
  exact h.1

theorem startDueItems_remapSound (n : Nat) (s : State) (h : s.remapSound) : (startDueItems n s).remapSound := by
  induction n generalizing s with
  | zero => exact h
  | succ n ih =>
    simp only [startDueItems]
    split
    next due => exact ih _ (s.startItem_remapSound h (s.idle_of_startDue due).1)
    next => exact h

theorem State.settleStarts_remapSound (s : State) (h : s.remapSound) : s.settleStarts.remapSound :=
  startDueItems_remapSound _ s h

theorem State.newStep_remapSound (s : State) (h : s.remapSound) : s.newStep.remapSound :=
  s.remapSound_of_eq h rfl rfl rfl

/-- The issues and starts that are due, with which every row but ENTRY_ISSUE begins. -/
theorem State.started_remapSound (s : State) (h : s.remapSound) :
    s.newStep.settleIssues.settleStarts.remapSound :=
  State.settleStarts_remapSound _ (State.settleIssues_remapSound _ (s.newStep_remapSound h))

theorem State.opened_remapSound (s : State) (h : s.remapSound) : s.opened.remapSound :=
  State.remapSound_of_eq (s.started_remapSound h) (by simp [State.opened, State.settle])
    (by simp [State.opened, State.settle]) (by simp [State.opened, State.settle])

/-! ## The rows -/

theorem State.issueIfDue_remapSound (s : State) (k : Nat) (h : s.remapSound) : (s.issueIfDue k).remapSound := by
  unfold State.issueIfDue
  split
  · exact s.issueEntry_remapSound k h
  · exact h

theorem State.demandReadDone_remapSound (s : State) (k : Nat) (h : s.remapSound) : (s.demandReadDone k).remapSound := by
  have other : ∀ t : State, t.lrt = s.lrt → t.pool = s.pool → t.copy = s.copy → t.remapSound := fun t =>
    s.remapSound_of_eq h
  unfold State.demandReadDone State.readDecoded
  split
  · exact h
  · split
    · split
      · exact other _ (by simp) (by simp) (by simp)
      · exact other _ (by simp) (by simp) (by simp)
      · exact State.haltOnUe_remapSound _ _ (other _ (by simp) (by simp) (by simp))
      · exact other _ (by simp) (by simp) (by simp)
    · exact other _ (by simp) (by simp) (by simp)
    · exact h

theorem State.poisonWriteDone_remapSound (s : State) (k : Nat) (h : s.remapSound) :
    (s.poisonWriteDone k).remapSound := by
  unfold State.poisonWriteDone
  split
  · exact h
  · split
    · split
      · exact State.haltOnUe_remapSound _ _ (s.remapSound_of_eq h (by simp) (by simp) (by simp))
      · exact h
    · exact h

/-- The buffer is filled while the Copy Unit is busy (R45). -/
theorem State.fillBuffer_remapSound (s : State) (d : LineData) (poison : Bool) (h : s.remapSound)
    (busy : s.copy.state ≠ .idle) : (s.fillBuffer d poison).remapSound := by
  obtain ⟨-, idle, -⟩ := s.remapSound_iff.1 h
  exact s.remapSound_of_item h rfl rfl rfl .rfl (fun none => absurd (idle.2 none) busy)

theorem State.fillDecoded_remapSound (s : State) (line : Nat) (l : Loc) (r : LineRead) (h : s.remapSound)
    (busy : s.copy.state ≠ .idle) : (s.fillDecoded line l r).remapSound := by
  unfold State.fillDecoded
  split
  · exact s.fillBuffer_remapSound _ _ h busy
  · exact s.fillBuffer_remapSound _ _ h busy
  · exact State.remapSound_of_eq (s.fillBuffer_remapSound r.data true h busy) (by simp) (by simp) (by simp)
  · exact s.fillBuffer_remapSound _ _ h busy

theorem State.afterCopyRead_remapSound (s : State) (k : Nat) (waiterFirst : Bool) (h : s.remapSound) :
    (s.afterCopyRead k waiterFirst).remapSound := by
  have removed : (s.removeEntry k).remapSound := s.remapSound_of_eq h (by simp) (by simp) (by simp)
  unfold State.afterCopyRead
  split
  · exact State.issueTarget_remapSound _ (State.settleIssues_remapSound _ removed)
  · exact State.issueTarget_remapSound _ removed

theorem State.copyReadDone_remapSound (s : State) (k : Nat) (waiterFirst : Bool) (h : s.remapSound) :
    (s.copyReadDone k waiterFirst).remapSound := by
  have done : ∀ op, (s.finishOp op).remapSound := fun op => s.remapSound_of_eq h (by simp) (by simp) (by simp)
  have busy : ∀ n op, s.currentItem n = true → (s.finishOp op).copy.state ≠ .idle := fun n op current => by
    simp only [State.currentItem, decide_eq_true_eq] at current
    simpa using current.1
  unfold State.copyReadDone
  split
  · exact h
  · split
    · split
      next current =>
        exact State.afterCopyRead_remapSound _ _ _ (State.fillDecoded_remapSound _ _ _ _ (done _) (busy _ _ current))
      next => exact h
    · split
      next current =>
        exact State.afterCopyRead_remapSound _ _ _ (State.fillBuffer_remapSound _ _ _ (done _) (busy _ _ current))
      next => exact h
    · exact h

theorem State.targetWriteDone_remapSound (s : State) (h : s.remapSound) : s.targetWriteDone.remapSound := by
  unfold State.targetWriteDone
  split
  · exact State.issueVerify_remapSound _ (s.remapSound_of_eq h (by simp) (by simp) (by simp))
  · exact h

theorem State.verifyDone_remapSound (s : State) (h : s.remapSound) : s.verifyDone.remapSound := by
  unfold State.verifyDone
  split
  next i op _ item _ =>
    exact State.verifyOutcome_remapSound _ i _ (s.remapSound_of_eq h (by simp) (by simp) (by simp)) (by simpa using item)
  next => exact h

theorem State.startIfDue_remapSound (s : State) (h : s.remapSound) : s.startIfDue.remapSound := by
  unfold State.startIfDue
  split
  next due => exact s.startItem_remapSound h (s.idle_of_startDue due).1
  next => exact h

/-- A line without an entry takes a FREE spare (R36). -/
theorem State.takeLoadRemap_remapSound (s : State) (h : s.remapSound) : s.takeLoadRemap.remapSound := by
  have other : ∀ r, (s.completeCommand r).remapSound := fun r => s.remapSound_of_eq h (by simp) (by simp) (by simp)
  unfold State.takeLoadRemap
  split
  · exact other _
  · split
    · exact other _
    next absent =>
      split
      · exact other _
      next free =>
        obtain ⟨books, idle, valid⟩ := s.remapSound_iff.1 h
        rw [State.remapSound_iff]
        have added := books.add (restoredEntry s.cmd.arg0.toNat s.cmd.arg1.toNat) s.cmd.arg1.toNat (s.lrt.gen + 1)
          (by simpa [State.entryOf, restoredEntry] using absent) (by simpa using free) rfl
          (by simp [restoredEntry, RemapState.copying?])
        exact ⟨by simpa [restoredEntry, RemapState.copying?] using added, by simpa using idle, by simpa using valid⟩

/-- Only a FREE spare is condemned (R37). -/
theorem State.takeMarkSpareBad_remapSound (s : State) (h : s.remapSound) : s.takeMarkSpareBad.remapSound := by
  have other : ∀ r, (s.completeCommand r).remapSound := fun r => s.remapSound_of_eq h (by simp) (by simp) (by simp)
  unfold State.takeMarkSpareBad
  split
  · exact other _
  · split
    next free =>
      obtain ⟨⟨slots, spares, lines, held, copying, entry⟩, idle, valid⟩ := s.remapSound_iff.1 h
      rw [State.remapSound_iff]
      have condemned := s.pool.accounts_condemn _ _ held free
      exact ⟨⟨by simpa using slots, by simpa using spares, by simpa using lines, by simpa using condemned,
        by simpa using copying, by simpa using entry⟩, by simpa using idle, by simpa using valid⟩
    next => exact other _
    next => exact other _

theorem State.take_remapSound (s : State) (c : Command) (h : s.remapSound) : (s.take c).remapSound := by
  cases c with
  | loadRemap =>
    rw [State.take]
    exact s.takeLoadRemap_remapSound h
  | markSpareBad =>
    rw [State.take]
    exact s.takeMarkSpareBad_remapSound h
  | _ => exact s.remapSound_of_eq h (by simp [State.take]) (by simp [State.take]) (by simp [State.take])

theorem State.writeCode_remapSound (s : State) (code : Word32) (h : s.remapSound) : (s.writeCode code).remapSound := by
  unfold State.writeCode State.takeCode State.tryTake
  split
  · exact s.remapSound_of_eq h rfl rfl rfl
  · split
    · exact s.remapSound_of_eq h (by simp) (by simp) (by simp)
    · split
      · exact s.take_remapSound _ h
      · exact s.remapSound_of_eq h (by simp) (by simp) (by simp)

theorem State.busWrite_remapSound (s : State) (r : Reg) (be : Enables) (v : Word32) (h : s.remapSound) :
    (s.busWrite r be v).remapSound := by
  unfold State.busWrite
  split
  · exact h
  · cases r with
    | cmdCode => exact s.writeCode_remapSound v h
    | spareCfg =>
      simp only [State.writeReg, State.writeSpareCfg]
      split
      · exact s.remapSound_of_item h rfl rfl rfl .rfl (fun _ => rfl)
      · exact h
    | _ => exact s.remapSound_of_eq h (by simp [State.writeReg]) (by simp [State.writeReg]) (by simp [State.writeReg])

theorem State.windowWrite_remapSound (s : State) (offset : BitVec 12) (be : Enables) (v : Word32) (h : s.remapSound) :
    (s.windowWrite offset be v).remapSound := by
  unfold State.windowWrite
  split
  · exact h
  · exact s.busWrite_remapSound _ be v h

/-! ## Resets (R38, R39) -/

/-- The entry in a copying state is the first one; without one there is none among the entries. -/
theorem copyingEntry_eq_find? (es : List (Option RemapEntry)) :
    copyingEntry es = (es.filterMap id).find? (fun e => e.state.copying?) := by
  induction es with
  | nil => rfl
  | cons x xs ih =>
    cases x with
    | none => simpa [copyingEntry] using ih
    | some x => cases c : x.state.copying? <;> simp [copyingEntry, c, ih]

/-- After the quiet abort no line is being copied (R39). -/
theorem State.quietAbort_books (s : State) (h : s.remapSound) : Books s.quietAbort.lrt s.quietAbort.pool none := by
  obtain ⟨books, -⟩ := s.remapSound_iff.1 h
  unfold State.quietAbort
  rw [copyingEntry_eq_find?]
  split
  next absent =>
    rw [List.find?_eq_none] at absent
    have nothing : s.copy.item.map (fun i => i.line) = none := by
      rw [Option.eq_none_iff_forall_ne_some]
      intro l copied
      obtain ⟨e, mem, same⟩ := books.entry l copied
      exact absent e mem ((books.copying e mem).2 (by rw [copied, same]))
    rwa [nothing] at books
  next e found =>
    have mem := List.mem_of_find?_eq_some found
    rw [(books.copying e mem).1 (List.find?_some (p := fun x : RemapEntry => x.state.copying?) found)] at books
    exact s.abortEntry_books e.line .free (by decide) books

theorem State.warm_remapSound (s : State) (h : s.remapSound) : s.warm.remapSound := by
  rw [State.remapSound_iff]
  exact ⟨(s.quietAbort_books h).of_spares rfl, by simp [State.warm, CopyUnit.reset], fun _ => rfl⟩

/-- The reset state agrees. -/
theorem State.reset_remapSound : State.reset.remapSound := by decide +kernel

theorem State.powerOn_remapSound (s : State) : s.powerOn.remapSound :=
  State.reset_remapSound.imp id id

/-! ## One command, one step -/

/-- The next state is the one that a command answers. -/
theorem State.remapSound_of_next {u t : State} (h : (.next u : Result) = .next t) (sound : u.remapSound) :
    t.remapSound :=
  Host.Outcome.next.inj h ▸ sound

theorem exec_remapSound (c : Instr) (s t : State) (sound : s.remapSound) (h : exec c s = .next t) : t.remapSound := by
  have opened := s.opened_remapSound sound
  have other : ∀ u : State, u.lrt = s.opened.lrt → u.pool = s.opened.pool → u.copy = s.opened.copy → u.remapSound :=
    fun u => State.remapSound_of_eq opened
  have started := s.started_remapSound sound
  cases c with
  | powerOnReset => exact State.remapSound_of_next h (State.powerOn_remapSound _)
  | warmReset => exact State.remapSound_of_next h (State.warm_remapSound _ opened)
  | entryIssue k => exact State.remapSound_of_next h (State.issueIfDue_remapSound _ k (s.newStep_remapSound sound))
  | demandReadComplete k => exact State.remapSound_of_next h (State.demandReadDone_remapSound _ k opened)
  | rmwPoisonWriteComplete k => exact State.remapSound_of_next h (State.poisonWriteDone_remapSound _ k opened)
  | copyReadComplete k w => exact State.remapSound_of_next h (State.copyReadDone_remapSound _ k w opened)
  | targetWriteComplete => exact State.remapSound_of_next h (State.targetWriteDone_remapSound _ opened)
  | verifyComplete => exact State.remapSound_of_next h (State.verifyDone_remapSound _ opened)
  | itemStart =>
    exact State.remapSound_of_next h
      (State.startIfDue_remapSound _ (State.settleIssues_remapSound _ (s.newStep_remapSound sound)))
  | initFillEnd => exact State.remapSound_of_next h (State.remapSound_of_eq started (by simp) (by simp) (by simp))
  | drainComplete => exact State.remapSound_of_next h (State.remapSound_of_eq started (by simp) (by simp) (by simp))
  | haltedStopComplete =>
    exact State.remapSound_of_next h (State.remapSound_of_eq started (by simp) (by simp) (by simp))
  | init | start | stop | setRegion | clearRegion | retire | release | loadRemap | markSpareBad | scrub | inject
  | clearSuspects => exact State.remapSound_of_next h (State.busWrite_remapSound _ _ _ _ opened)
  | unknownCommand code => exact State.remapSound_of_next h (State.busWrite_remapSound _ _ _ code opened)
  | commandRefused code => exact State.remapSound_of_next h (State.busWrite_remapSound _ _ _ code opened)
  | arrayCfgWrite be v | suspectCfgWrite be v | patrolCfgWrite be v | irqCauseWrite be v | irqEnableWrite be v
  | cmdStatusWrite be v | recPop be v | counterClear _ be v =>
    exact State.remapSound_of_next h (State.busWrite_remapSound _ _ be v opened)
  | registerWrite offset be v => exact State.remapSound_of_next h (State.windowWrite_remapSound _ offset be v opened)
  | arrayCellFault phys word bits =>
    simp only [exec, execArrayCellFault] at h
    split at h
    · exact State.remapSound_of_next h (other _ (by simp) (by simp) (by simp))
    · cases h
  | _ => exact State.remapSound_of_next h (other _ (by simp) (by simp) (by simp))

/-- Settles O56: a step performs what is due and then acts by one command, and both keep the agreement. -/
theorem everyStepKeepsRemapSound : Obligations.EveryStepKeepsRemapSound := by
  intro s t sound h
  unfold step at h
  split at h
  · exact State.remapSound_of_next h (s.opened_remapSound sound)
  next c rest _ => exact exec_remapSound c (s.setPending rest) t (s.remapSound_of_eq sound rfl rfl rfl) h

end Sys2Proof.Machine
end

section
/-!
PROOFS. The quiet abort of a warm reset (R39, R35), and the two commands that restore an entry and condemn a spare (R36,
R37), each by what its remap operation does to the table and the pool.
-/

namespace Sys2Proof.Machine

/-! ## The quiet abort (R39) -/

/-- An entry that is put, changed or removed is what its line then has; every other line has what it had (R18). -/
theorem State.entryOf_putEntry (s : State) (line l : Nat) (e : RemapEntry) (r : Option RemapEntry)
    (one : (s.lrt.entries.map (fun x => x.line)).Nodup) (found : s.entryOf line = some e)
    (hr : ∀ x ∈ r, x.line = line) : (s.putEntry line r).entryOf l = if l = line then r else s.entryOf l :=
  findEntry_replaceEntry s.lrt.slots line l e r one found hr

/-- What an aborted entry returns to: nothing, or its ACTIVE entry (R35). -/
def RemapEntry.returned (e : RemapEntry) : Option RemapEntry :=
  match e.state with
  | .copying _ => none
  | .moving c _ m => some { e with state := .active c m }
  | .releasing c m => some { e with state := .active c m }
  | .active _ _ => some e

theorem RemapEntry.returned_line (e x : RemapEntry) (h : x ∈ e.returned) : x.line = e.line := by
  unfold RemapEntry.returned at h
  split at h <;> cases h <;> rfl

/-- An abort puts what the entry returns to in its place and gives its target, if it has one, the state x (R35). -/
theorem State.abortEntry_of_copying (s : State) (line : Nat) (e : RemapEntry) (x : SpareState)
    (found : s.entryOf line = some e) (copying : e.state.copying? = true) :
    s.abortEntry line x = (match e.state.target? with
      | some t => s.setSpare t x
      | none => s).putEntry line e.returned := by
  simp only [State.abortEntry, found, RemapEntry.returned]
  cases state : e.state with
  | active c m => simp [state, RemapState.copying?] at copying
  | copying t => rfl
  | moving c t m => rfl
  | releasing c m => rfl

/-- Without an entry in a copying state the quiet abort changes nothing (R39). -/
theorem State.quietAbort_of_none (s : State) (h : ∀ e ∈ s.lrt.entries, e.state.copying? = false) :
    s.quietAbort = s := by
  have absent : copyingEntry s.lrt.slots = none := by
    rw [copyingEntry_eq_find?, List.find?_eq_none]
    intro e mem
    simp [h e mem]
  simp [State.quietAbort, absent]

/-- The quiet abort aborts the one entry in a copying state (R39). -/
theorem State.quietAbort_of_copying (s : State) (e : RemapEntry) (mem : e ∈ s.lrt.entries)
    (copying : e.state.copying? = true) (only : ∀ x ∈ s.lrt.entries, x.state.copying? = true → x = e) :
    s.quietAbort = s.abortEntry e.line .free := by
  have found : copyingEntry s.lrt.slots = some e := by
    rw [copyingEntry_eq_find?]
    cases first : (s.lrt.slots.filterMap id).find? (fun x => x.state.copying?) with
    | none => exact absurd copying (List.find?_eq_none.1 first e mem)
    | some x =>
      rw [only x (List.mem_of_find?_eq_some first) (List.find?_some (p := fun x : RemapEntry => x.state.copying?) first)]
  simp [State.quietAbort, found]

/-- Settles O7: the quiet abort is the abort of the one copying entry, which puts what the entry returns to in its place
and frees its target. -/
theorem quietAbortRestoresTheEntry : Obligations.QuietAbortRestoresTheEntry := by
  refine ⟨fun u h => u.quietAbort_of_none h, fun u e one mem only => ?_⟩
  have found : u.entryOf e.line = some e := (u.entryOf_eq_some_iff e.line e one).2 ⟨mem, rfl⟩
  have aborted (copying : e.state.copying? = true) : u.quietAbort = (match e.state.target? with
      | some t => u.setSpare t .free
      | none => u).putEntry e.line e.returned := by
    rw [u.quietAbort_of_copying e mem copying only, u.abortEntry_of_copying e.line e .free found copying]
  have entries (copying : e.state.copying? = true) (line : Nat) :
      u.quietAbort.entryOf line = if line = e.line then e.returned else u.entryOf line := by
    rw [aborted copying]
    split
    · exact State.entryOf_putEntry _ e.line line e _ one found (fun x h => e.returned_line x h)
    · exact State.entryOf_putEntry _ e.line line e _ one found (fun x h => e.returned_line x h)
  refine ⟨fun t state => ?_, fun c t m state => ?_, fun c m state => ?_, fun copying => ⟨fun line other => ?_, ?_⟩⟩
  · simp [entries, state, RemapState.copying?, RemapEntry.returned]
  · simp [entries, state, RemapState.copying?, RemapEntry.returned]
  · simp [entries, state, RemapState.copying?, RemapEntry.returned]
  · rw [entries copying, if_neg other]
  · rw [aborted copying]
    cases e.state.target? <;> rfl

/-! ## LOAD_REMAP and MARK_SPARE_BAD (R36, R37) -/

/-- A command that is not taken in the controller state completes with WRONG_STATE (R193). -/
theorem State.tryTake_wrongState (u : State) (c : Command) (h : c.takenIn u.ctl.state = false) :
    u.tryTake c = u.done .wrongState := by
  rw [State.tryTake, h]
  rfl

/-- A command that is taken acts by its own tests (R189). -/
theorem State.tryTake_taken (u : State) (c : Command) (h : c.takenIn u.ctl.state = true) :
    u.tryTake c = u.take c := by
  rw [State.tryTake, h]
  rfl

/-- With a free slot LOAD_REMAP is tested and taken (R189). -/
theorem exec_loadRemap (s : State) (h : s.opened.slotFree) :
    exec .loadRemap s = .next (s.opened.tryTake .loadRemap) :=
  congrArg _ (s.opened.busWrite_cmdCode 8 h)

/-- With a free slot MARK_SPARE_BAD is tested and taken (R189). -/
theorem exec_markSpareBad (s : State) (h : s.opened.slotFree) :
    exec .markSpareBad s = .next (s.opened.tryTake .markSpareBad) :=
  congrArg _ (s.opened.busWrite_cmdCode 9 h)

/-- The crossing test looks at the pool and not at the table (R28). -/
theorem State.noteCrossing_addEntry (s : State) (before : Nat) (e : RemapEntry) :
    (s.noteCrossing before).addEntry e = (s.addEntry e).noteCrossing before := by
  simp only [State.noteCrossing_eq]
  split
  next crossed => exact (if_pos crossed).symm
  next stays => exact (if_neg stays).symm

/-- LOAD_REMAP by its tests in their order (R36). -/
theorem State.takeLoadRemap_eq (u : State) :
    let line := u.cmd.arg0.toNat
    let n := u.cmd.arg1.toNat
    (u.aif.size.logical ≤ line ∨ 127 < n → u.takeLoadRemap = u.done .badArgument) ∧
    (line < u.aif.size.logical → n ≤ 127 →
      (∀ e, u.entryOf line = some e → u.takeLoadRemap = u.done .remapped) ∧
      (u.entryOf line = none → u.pool.get n ≠ .free → u.takeLoadRemap = u.done .spareNotFree) ∧
      (u.entryOf line = none → u.pool.get n = .free → u.takeLoadRemap =
        (((u.setSpare n .held).addEntry (restoredEntry line n)).noteCrossing (u.pool.count .free)).done .done)) := by
  intro line n
  simp only [← State.completeCommand_eq]
  refine ⟨fun bad => if_pos bad, fun hline hn => ?_⟩
  have inRange : ¬ (u.aif.size.logical ≤ line ∨ 127 < n) := by omega
  rw [State.takeLoadRemap, if_neg inRange]
  refine ⟨fun e found => ?_, fun absent held => ?_, fun absent free => ?_⟩
  · rw [if_pos (Option.isSome_of_eq_some found)]
  · rw [if_neg (Option.not_isSome_iff_eq_none.2 absent), if_pos held]
  · rw [if_neg (Option.not_isSome_iff_eq_none.2 absent), if_neg (not_not_intro free), State.takeSpare,
      State.noteCrossing_addEntry]

/-- MARK_SPARE_BAD by its test and the spare's state (R37). -/
theorem State.takeMarkSpareBad_eq (u : State) :
    let n := u.cmd.arg0.toNat
    (127 < n → u.takeMarkSpareBad = u.done .badArgument) ∧
    (n ≤ 127 → u.pool.get n = .free → u.takeMarkSpareBad =
      (((u.setSpare n .bad).noteCrossing (u.pool.count .free)).offer (markBadRecord n)).done .done) ∧
    (n ≤ 127 → u.pool.get n = .bad → u.takeMarkSpareBad = u.done .done) ∧
    (n ≤ 127 → u.pool.get n = .held → u.takeMarkSpareBad = u.done .spareNotFree) := by
  intro n
  simp only [← State.completeCommand_eq]
  refine ⟨fun bad => if_pos bad, fun hn free => ?_, fun hn bad => ?_, fun hn held => ?_⟩
  · simp only [State.takeMarkSpareBad, Nat.not_lt.2 hn, free, State.takeSpare, n, ↓reduceIte]
  · simp only [State.takeMarkSpareBad, Nat.not_lt.2 hn, bad, n, ↓reduceIte]
  · simp only [State.takeMarkSpareBad, Nat.not_lt.2 hn, held, n, ↓reduceIte]

/-- Settles O42: each command is taken or refused by the controller state, and taken acts by its tests. -/
theorem loadRemapAndMarkSpareBad : Obligations.LoadRemapAndMarkSpareBad := by
  intro s u slot line n loaded marked
  rw [exec_loadRemap s slot, exec_markSpareBad s slot]
  refine ⟨fun taken => ?_, fun uninit stopped => ?_, fun taken => ?_⟩
  · rw [u.tryTake_taken .loadRemap (decide_eq_true taken)]
    obtain ⟨badArgument, tested⟩ := u.takeLoadRemap_eq
    refine ⟨fun bad => congrArg _ (badArgument bad), fun hline hn => ?_⟩
    obtain ⟨remapped, spareNotFree, loads⟩ := tested hline hn
    exact ⟨fun e found => congrArg _ (remapped e found), fun absent held => congrArg _ (spareNotFree absent held),
      fun absent free => congrArg _ (loads absent free)⟩
  · rw [u.tryTake_wrongState .loadRemap (decide_eq_false (not_or_intro uninit stopped))]
  · rw [u.tryTake_taken .markSpareBad (decide_eq_true taken)]
    obtain ⟨badArgument, condemns, bad, held⟩ := u.takeMarkSpareBad_eq
    exact ⟨fun h => congrArg _ (badArgument h), fun hn h => congrArg _ (condemns hn h), fun hn h => congrArg _ (bad hn h),
      fun hn h => congrArg _ (held hn h)⟩

end Sys2Proof.Machine
end

section
/-!
PROOFS. The command slot and the Patrol Unit against the work they stand for (R105, R187, R189), each as a relation with
one case for each way they can stand, and what a change of either makes of it.
-/

namespace Sys2Proof.Machine

/-! ## The command slot (R187, R189) -/

/-- What a command slot may hold, by the controller state, the number of command items and a scrub's range (R189). -/
inductive SlotAgrees : Option Command → CtlState → Nat → Bool → Prop
  | free {c : CtlState} (fill : c ≠ .initializing) (drain : c ≠ .draining) : SlotAgrees none c 0 false
  | filling : SlotAgrees (some .init) .initializing 0 false
  | drains : SlotAgrees (some .stop) .draining 0 false
  | waits : SlotAgrees (some .stop) .halted 0 false
  | scrubs : SlotAgrees (some .scrub) .running 0 true
  | retires : SlotAgrees (some .retire) .running 1 false
  | releases : SlotAgrees (some .release) .running 1 false

/-- A free slot stands for no work (R187). -/
theorem SlotAgrees.of_free {c : CtlState} {n : Nat} {b : Bool} (h : SlotAgrees none c n b) :
    c ≠ .initializing ∧ c ≠ .draining ∧ n = 0 ∧ b = false := by
  cases h with
  | free fill drain => exact ⟨fill, drain, rfl, rfl⟩

/-- The end of the one command item frees the slot (R42, R53). -/
theorem SlotAgrees.item_ended {r : Option Command} {c : CtlState} {n : Nat} {b : Bool}
    (h : SlotAgrees r c (n + 1) b) : SlotAgrees none c n b := by
  cases h <;> exact .free (by decide) (by decide)

/-- A scrub's range stands for SCRUB in RUNNING (R116). -/
theorem SlotAgrees.of_scrub {r : Option Command} {c : CtlState} {n : Nat} (h : SlotAgrees r c n true) :
    c = .running ∧ n = 0 := by
  cases h
  exact ⟨rfl, rfl⟩

/-- A fill, a drain, and a STOP in progress are without command items and scrubs (R173, R177, R178). -/
theorem SlotAgrees.of_ending {r : Option Command} {c : CtlState} {n : Nat} {b : Bool} (h : SlotAgrees r c n b)
    (ending : c = .initializing ∨ c = .draining ∨ r = some .stop) : n = 0 ∧ b = false := by
  cases h <;> simp_all

/-- A busy slot case by case (R189). -/
theorem SlotAgrees.busy_iff (k : Command) (c : CtlState) (n : Nat) (b : Bool) : SlotAgrees (some k) c n b ↔
    (k = .init ∧ c = .initializing ∧ n = 0 ∧ b = false) ∨
    (k = .stop ∧ (c = .draining ∨ c = .halted) ∧ n = 0 ∧ b = false) ∨
    (k = .scrub ∧ c = .running ∧ n = 0 ∧ b = true) ∨
    ((k = .retire ∨ k = .release) ∧ c = .running ∧ n = 1 ∧ b = false) := by
  constructor
  · intro h
    cases h <;> simp
  · rintro (⟨rfl, rfl, rfl, rfl⟩ | ⟨rfl, rfl | rfl, rfl, rfl⟩ | ⟨rfl, rfl, rfl, rfl⟩ | ⟨rfl | rfl, rfl, rfl, rfl⟩)
    · exact .filling
    · exact .drains
    · exact .waits
    · exact .scrubs
    · exact .retires
    · exact .releases

/-- Where a halt ends the work that it finds, no other command is in progress (R181). -/
theorem SlotAgrees.halt_free {r : Option Command} {c : CtlState} (h : SlotAgrees r c 0 false)
    (fill : c ≠ .initializing) (stop : r ≠ some .stop) : r = none := by
  cases h <;> simp_all

/-! ## The Patrol Unit (R105) -/

/-- The four states of the Patrol Unit with what goes with each: its timer, candidate and range, the PATROL entries and
the patrol wait count (R105, R107, R110, R163). -/
inductive PatrolAgrees (p : PatrolUnit) (c : CtlState) (entries wait : Nat) : Prop
  | off (state : p.state = .off) (activity : p.activity = .background) (timer : p.timer = none)
      (candidate : p.candidate = none) (scrub : p.scrub = none) (flown : entries = 0) (waited : wait = 0)
  | waiting (state : p.state = .waiting) (activity : p.activity = .background) (mode : p.mode ≠ .off)
      (timer : p.timer.isSome = true) (candidate : p.candidate = none) (scrub : p.scrub = none) (flown : entries = 0)
      (waited : wait = 0)
  | issuing (state : p.state = .issuing) (mode : p.mode = .off → p.activity = .scrub) (timer : p.timer = none)
      (candidate : p.candidate.isSome = true) (scrub : p.scrub.isSome = true ↔ p.activity = .scrub)
      (running : c = .running) (flown : entries = 0) (waited : wait ≤ 16)
  | inFlight (state : p.state = .inFlight) (timer : p.timer = none) (candidate : p.candidate.isSome = true)
      (scrub : p.scrub.isSome = true ↔ p.activity = .scrub) (flown : entries = 1) (waited : wait = 0)

/-- The interval in effect is one that PATROL_CFG can hold (R106). -/
def PatrolUnit.timed (p : PatrolUnit) : Prop := 1 ≤ p.interval ∧ p.interval ≤ 4095

/-- Only an ISSUING unit looks at the controller state. -/
theorem PatrolAgrees.of_ctl {p : PatrolUnit} {c d : CtlState} {e w : Nat} (h : PatrolAgrees p c e w)
    (issuing : p.state = .issuing → d = .running) : PatrolAgrees p d e w := by
  cases h with
  | off a b c d e f g => exact .off a b c d e f g
  | waiting a b c d e f g i => exact .waiting a b c d e f g i
  | issuing a b c d e f g i => exact .issuing a b c d e (issuing a) g i
  | inFlight a b c d e f => exact .inFlight a b c d e f

/-- The cursor, the interval, the visited flag and the sweep number play no part. -/
theorem PatrolAgrees.of_fields {p q : PatrolUnit} {c : CtlState} {e w : Nat} (h : PatrolAgrees p c e w)
    (state : q.state = p.state) (activity : q.activity = p.activity) (mode : q.mode = p.mode)
    (timer : q.timer = p.timer) (candidate : q.candidate = p.candidate) (scrub : q.scrub = p.scrub) :
    PatrolAgrees q c e w := by
  cases p
  cases q
  dsimp only at state activity mode timer candidate scrub
  subst state activity mode timer candidate scrub
  cases h with
  | off a b c d e f g => exact .off a b c d e f g
  | waiting a b c d e f g i => exact .waiting a b c d e f g i
  | issuing a b c d e f g i => exact .issuing a b c d e f g i
  | inFlight a b c d e f => exact .inFlight a b c d e f

/-- Outside RUNNING the unit is not ISSUING (R110, R119). -/
theorem PatrolAgrees.not_issuing {p : PatrolUnit} {c : CtlState} {e w : Nat} (h : PatrolAgrees p c e w)
    (c_ne : c ≠ .running) : p.state ≠ .issuing := by
  cases h <;> simp_all

/-- During background activity there is no range (R105). -/
theorem PatrolAgrees.scrub_none {p : PatrolUnit} {c : CtlState} {e w : Nat} (h : PatrolAgrees p c e w)
    (background : p.activity = .background) : p.scrub = none := by
  cases h <;> simp_all

/-- No PATROL entry exists outside IN_FLIGHT (R105). -/
theorem PatrolAgrees.grounded {p : PatrolUnit} {c : CtlState} {e w : Nat} (h : PatrolAgrees p c e w)
    (other : p.state ≠ .inFlight) : e = 0 := by
  cases h <;> simp_all

/-- The wait count is 0 outside ISSUING (R163). -/
theorem PatrolAgrees.not_waiting {p : PatrolUnit} {c : CtlState} {e w : Nat} (h : PatrolAgrees p c e w)
    (other : p.state ≠ .issuing) : w = 0 := by
  cases h <;> simp_all

/-- What goes with IN_FLIGHT whatever the activity (R105, R111). -/
theorem PatrolAgrees.of_inFlight {p : PatrolUnit} {c : CtlState} {e w : Nat} (h : PatrolAgrees p c e w)
    (state : p.state = .inFlight) : p.timer = none ∧ p.candidate.isSome = true ∧ e = 1 ∧ w = 0 := by
  cases h <;> simp_all

/-- A new mode and interval go with a unit that has no background work to give up (R115). -/
theorem PatrolAgrees.with_mode {p : PatrolUnit} {c : CtlState} {e w : Nat} (h : PatrolAgrees p c e w) (m : PatrolMode)
    (i : Nat) (works : p.activity = .background → p.state = .waiting ∨ p.state = .issuing → m ≠ .off) :
    PatrolAgrees { p with mode := m, interval := i } c e w := by
  cases h with
  | off a b c d e f g => exact .off a b c d e f g
  | waiting a b _ d e f g i => exact .waiting a b (works b (.inl a)) d e f g i
  | issuing a _ c d e f g i =>
    refine .issuing a (fun off => ?_) c d e f g i
    cases activity : p.activity with
    | background => exact absurd off (works activity (.inr a))
    | scrub => rfl
  | inFlight a b c d e f => exact .inFlight a b c d e f

@[simp] theorem PatrolUnit.wait_fields (p : PatrolUnit) :
    p.wait.activity = p.activity ∧ p.wait.mode = p.mode ∧ p.wait.interval = p.interval ∧ p.wait.scrub = p.scrub :=
  ⟨rfl, rfl, rfl, rfl⟩

@[simp] theorem PatrolUnit.turnOff_fields (p : PatrolUnit) :
    p.turnOff.activity = p.activity ∧ p.turnOff.mode = p.mode ∧ p.turnOff.interval = p.interval ∧
    p.turnOff.scrub = p.scrub := ⟨rfl, rfl, rfl, rfl⟩

@[simp] theorem PatrolUnit.rest_fields (p : PatrolUnit) :
    p.rest.activity = p.activity ∧ p.rest.mode = p.mode ∧ p.rest.interval = p.interval ∧ p.rest.scrub = p.scrub := by
  unfold PatrolUnit.rest
  split <;> simp

@[simp] theorem PatrolUnit.setBack_fields (p : PatrolUnit) :
    p.setBack.activity = p.activity ∧ p.setBack.mode = p.mode ∧ p.setBack.interval = p.interval ∧
    p.setBack.scrub = p.scrub := by
  unfold PatrolUnit.setBack
  split <;> simp

/-- OFF with the timer stopped (R106). -/
theorem PatrolUnit.turnOff_agrees (p : PatrolUnit) (c : CtlState) (background : p.activity = .background)
    (scrub : p.scrub = none) : PatrolAgrees p.turnOff c 0 0 :=
  .off rfl background rfl rfl scrub rfl rfl

/-- WAITING with the timer started (R107). -/
theorem PatrolUnit.wait_agrees (p : PatrolUnit) (c : CtlState) (background : p.activity = .background)
    (scrub : p.scrub = none) (mode : p.mode ≠ .off) : PatrolAgrees p.wait c 0 0 :=
  .waiting rfl background mode rfl rfl scrub rfl rfl

/-- At rest by the mode (R114, R117, R118). -/
theorem PatrolUnit.rest_agrees (p : PatrolUnit) (c : CtlState) (background : p.activity = .background)
    (scrub : p.scrub = none) : PatrolAgrees p.rest c 0 0 := by
  unfold PatrolUnit.rest
  split
  · exact p.turnOff_agrees c background scrub
  next mode => exact p.wait_agrees c background scrub mode

end Sys2Proof.Machine
end

section
/-!
PROOFS. What the command slot and the Patrol Unit look at, and which operations leave it: the command in progress, the
controller state, the command items, the Patrol Unit, the PATROL entries and the patrol wait count (R100, R105, R163,
R187).
-/

namespace Sys2Proof.Machine

/-! ## Agreement with so many command items and PATROL entries -/

/-- The command slot and the Patrol Unit agree with `items` command items and `entries` PATROL entries. -/
structure State.Agrees (s : State) (items entries : Nat) : Prop where
  slot : SlotAgrees (s.cmd.running.map (fun r => r.command)) s.ctl.state items s.patrol.scrub.isSome
  timed : s.patrol.timed
  patrol : PatrolAgrees s.patrol s.ctl.state entries s.arbiter.patrolWait

/-- The command slot and the Patrol Unit agree with the items and entries that there are. -/
abbrev State.Control (s : State) : Prop := s.Agrees s.commandItems s.patrolEntries

theorem State.slotSound_iff (s : State) : s.slotSound = true ↔
    SlotAgrees (s.cmd.running.map (fun r => r.command)) s.ctl.state s.commandItems s.patrol.scrub.isSome := by
  unfold State.slotSound
  cases s.cmd.running with
  | none =>
    simp only [Bool.and_eq_true, decide_eq_true_eq, Option.isNone_iff_eq_none, Option.map_none]
    constructor
    · rintro ⟨⟨fill, drain, items⟩, scrub⟩
      rw [items, scrub]
      exact .free fill drain
    · intro h
      obtain ⟨fill, drain, items, scrub⟩ := h.of_free
      exact ⟨⟨fill, drain, items⟩, by simpa using scrub⟩
  | some r =>
    obtain ⟨k, _, _, _⟩ := r
    rw [Option.map_some, SlotAgrees.busy_iff]
    cases k <;> simp [and_assoc]


theorem State.patrolSound_iff (s : State) : s.patrolSound = true ↔
    s.patrol.timed ∧ PatrolAgrees s.patrol s.ctl.state s.patrolEntries s.arbiter.patrolWait := by
  have background : s.patrol.activity = .background ↔ s.patrol.activity ≠ .scrub := by
    cases s.patrol.activity <;> simp
  simp only [State.patrolSound, PatrolUnit.timed, Bool.and_eq_true, decide_eq_true_eq]
  constructor
  · rintro ⟨⟨⟨⟨⟨⟨⟨⟨candidate, timer⟩, scrub⟩, working⟩, running⟩, mode⟩, flown⟩, timed⟩, waitMax, waited⟩
    refine ⟨timed, ?_⟩
    have none_timer : s.patrol.timer = none ↔ s.patrol.state ≠ .waiting := by
      rw [← Option.not_isSome_iff_eq_none, timer]
    have none_candidate : s.patrol.candidate = none ↔ ¬ (s.patrol.state = .issuing ∨ s.patrol.state = .inFlight) := by
      rw [← Option.not_isSome_iff_eq_none, candidate]
    have none_scrub : s.patrol.scrub = none ↔ s.patrol.activity = .background := by
      rw [← Option.not_isSome_iff_eq_none, scrub, background]
    cases state : s.patrol.state with
    | off =>
      have activity := background.2 fun scrubs => by simpa [state] using working scrubs
      exact .off state activity (by simp [none_timer, state]) (by simp [none_candidate, state]) (none_scrub.2 activity)
        (by simp [flown, state]) (waited (by simp [state]))
    | waiting =>
      have activity := background.2 fun scrubs => by simpa [state] using working scrubs
      exact .waiting state activity (fun off => by simpa [state] using mode off activity) (by simp [timer, state])
        (by simp [none_candidate, state]) (none_scrub.2 activity) (by simp [flown, state]) (waited (by simp [state]))
    | issuing =>
      have scrubs : s.patrol.mode = .off → s.patrol.activity = .scrub := fun off => by
        by_contra other
        simpa [state] using mode off (background.2 other)
      exact .issuing state scrubs (by simp [none_timer, state]) (by simp [candidate, state]) scrub (running state)
        (by simp [flown, state]) waitMax
    | inFlight =>
      exact .inFlight state (by simp [none_timer, state]) (by simp [candidate, state]) scrub (by simp [flown, state])
        (waited (by simp [state]))
  · rintro ⟨timed, h⟩
    cases h with
    | off state activity timer candidate scrub flown waited =>
      simp [state, activity, timer, candidate, scrub, flown, waited, timed]
    | waiting state activity mode timer candidate scrub flown waited =>
      simp [state, activity, mode, timer, candidate, scrub, flown, waited, timed]
    | issuing state mode timer candidate scrub running flown waited =>
      simpa [state, timer, candidate, scrub, running, flown, waited, timed, background] using mode
    | inFlight state timer candidate scrub flown waited =>
      simp [state, timer, candidate, scrub, flown, waited, timed]

/-- The invariant of the command slot and the Patrol Unit (R105, R187, R189). -/
theorem State.controlSound_iff (s : State) : s.controlSound ↔ s.remapSound ∧ s.Control := by
  rw [State.controlSound, s.slotSound_iff, s.patrolSound_iff]
  constructor
  · rintro ⟨sound, slot, timed, patrol⟩
    exact ⟨sound, slot, timed, patrol⟩
  · rintro ⟨sound, slot, timed, patrol⟩
    exact ⟨sound, slot, timed, patrol⟩

/-- Agreement looks at these blocks alone. -/
theorem State.Agrees.of_eq {s t : State} {n e : Nat} (h : s.Agrees n e) (running : t.cmd.running = s.cmd.running)
    (ctl : t.ctl.state = s.ctl.state) (patrol : t.patrol = s.patrol)
    (wait : t.arbiter.patrolWait = s.arbiter.patrolWait) : t.Agrees n e := by
  obtain ⟨slot, timed, agrees⟩ := h
  rw [← running, ← ctl, ← patrol] at slot
  rw [← patrol] at timed
  rw [← ctl, ← patrol, ← wait] at agrees
  exact ⟨slot, timed, agrees⟩

/-! ## PATROL entries of the Open-Line Table -/

/-- The work of each slot. -/
def State.works (s : State) : List (Option Work) := s.olt.slots.map (fun e => e.map (fun e => e.work))

theorem State.patrolEntries_eq (s : State) : s.patrolEntries = s.works.count (some .patrol) := by
  unfold State.patrolEntries State.works
  induction s.olt.slots with
  | nil => rfl
  | cons x xs ih =>
    cases x with
    | none => simpa using ih
    | some e => simpa [List.countP_cons, List.count_cons] using ih

theorem State.works_of_entryAt (s : State) (k : Nat) (e : OpenEntry) (h : s.entryAt k = some e) :
    s.works[k]? = some (some e.work) := by
  have inTable := s.entryAt_lt k e h
  simp only [State.entryAt, List.getD_eq_getElem?_getD, List.getElem?_eq_getElem inTable, Option.getD_some] at h
  simp [State.works, inTable, h]

/-- Putting an entry sets its slot's work. -/
theorem State.works_putOpen (s : State) (k : Nat) (e : OpenEntry) :
    (s.putOpen k e).works = s.works.set k (some e.work) := by
  simp [State.works, State.putOpen, List.map_set]

/-- Removing an entry empties its slot; retargeting changes no work (R67). -/
theorem State.works_removeEntry (s : State) (k : Nat) (e : OpenEntry) (h : s.entryAt k = some e) :
    (s.removeEntry k).works = s.works.set k none := by
  have work : ∀ w x, (retarget k w x).map (fun e => e.work) = x.map (fun e => e.work) := fun w x => by
    cases x with
    | none => rfl
    | some x =>
      simp only [retarget, Option.map_some, Option.some.injEq]
      split <;> rfl
  have none_work : (none : Option Work) = (none : Option OpenEntry).map (fun e => e.work) := rfl
  rw [State.works, State.works, none_work, ← List.map_set]
  simp [State.removeEntry, h, work, Function.comp_def]

/-- Removing an entry that is no PATROL entry, or none, leaves the PATROL entries. -/
theorem State.patrolEntries_removeEntry (s : State) (k : Nat) (h : s.works[k]? ≠ some (some .patrol)) :
    (s.removeEntry k).patrolEntries = s.patrolEntries := by
  cases found : s.entryAt k with
  | none => simp [State.removeEntry, found]
  | some e =>
    have work := s.works_of_entryAt k e found
    obtain ⟨inTable, eq⟩ := List.getElem?_eq_some_iff.1 work
    have other : e.work ≠ .patrol := fun same => h (by rw [work, same])
    rw [State.patrolEntries_eq, s.works_removeEntry k e found, List.count_set inTable, eq, ← State.patrolEntries_eq]
    simp [other]

/-- Removing a PATROL entry leaves one fewer. -/
theorem State.patrolEntries_removeEntry_patrol (s : State) (k : Nat) (e : OpenEntry) (found : s.entryAt k = some e)
    (patrol : e.work = .patrol) : (s.removeEntry k).patrolEntries + 1 = s.patrolEntries := by
  have work := s.works_of_entryAt k e found
  obtain ⟨inTable, eq⟩ := List.getElem?_eq_some_iff.1 work
  have some_patrol : 0 < s.works.count (some .patrol) := by
    rw [List.count_pos_iff, ← patrol]
    exact List.mem_of_getElem? work
  rw [State.patrolEntries_eq, s.works_removeEntry k e found, List.count_set inTable, eq, s.patrolEntries_eq]
  simp [patrol]
  omega

/-- An entry put in place of one of the same work leaves the PATROL entries. -/
theorem State.patrolEntries_putOpen (s : State) (k : Nat) (x e : OpenEntry) (found : s.entryAt k = some x)
    (same : e.work = x.work) : (s.putOpen k e).patrolEntries = s.patrolEntries := by
  obtain ⟨inTable, eq⟩ := List.getElem?_eq_some_iff.1 (s.works_of_entryAt k x found)
  rw [State.patrolEntries_eq, s.works_putOpen, same, ← eq, List.set_getElem_self, ← State.patrolEntries_eq]

/-- A grant in an empty slot adds a PATROL entry for the work of one (R66). -/
theorem State.patrolEntries_createEntry (s : State) (work : Work) (line : Nat) (cls : CheckClass) (k : Nat)
    (empty : s.emptySlot = some k) :
    (s.createEntry work line cls).patrolEntries = s.patrolEntries + if work = .patrol then 1 else 0 := by
  obtain ⟨inTable, isNone, -⟩ := List.findIdx?_eq_some_iff_getElem.1 empty
  have inWorks : k < s.works.length := by simpa [State.works] using inTable
  have free : s.works[k] = none := by simpa [State.works] using isNone
  have works : (s.createEntry work line cls).works = s.works.set k (some work) := by
    rw [State.works, s.createEntry_some work line cls k empty, State.works, List.map_set]
    rfl
  rw [State.patrolEntries_eq, works, List.count_set inWorks, free, ← State.patrolEntries_eq]
  simp

/-- Freeing the entry on the hold changes no work (R53). -/
theorem works_releaseHold (es : List (Option OpenEntry)) :
    (es.map releaseHold).map (fun e => e.map (fun e => e.work)) = es.map (fun e => e.map (fun e => e.work)) := by
  rw [List.map_map]
  congr 1
  funext x
  cases x with
  | none => rfl
  | some e =>
    simp only [Function.comp_apply, releaseHold, Option.map_some, Option.some.injEq]
    split <;> rfl

/-! ## Command items of the Retirement Queue (R100) -/

@[simp] theorem State.nominate_commands (s : State) (line : Nat) :
    (s.nominate line).rtq.countP (fun i => i.command) = s.rtq.countP (fun i => i.command) := by
  unfold State.nominate
  split <;> simp [State.enqueue, suspectItem]

@[simp] theorem State.nominateAt_commands (s : State) (line n : Nat) :
    (s.nominateAt line n).rtq.countP (fun i => i.command) = s.rtq.countP (fun i => i.command) := by
  unfold State.nominateAt
  split <;> simp

@[simp] theorem State.suspectUpdate_commands (s : State) (line : Nat) (l : Loc) (mask : WordMask) :
    (s.suspectUpdate line l mask).rtq.countP (fun i => i.command) = s.rtq.countP (fun i => i.command) := by
  unfold State.suspectUpdate State.bumpSuspect State.addSuspect
  (repeat' split) <;> simp

@[simp] theorem reofferLines_commands (ls : List Nat) (s : State) :
    (reofferLines ls s).rtq.countP (fun i => i.command) = s.rtq.countP (fun i => i.command) := by
  induction ls generalizing s with
  | nil => rfl
  | cons line ls ih =>
    simp only [reofferLines]
    split <;> simp [State.enqueue, suspectItem, ih]

@[simp] theorem State.reoffer_commands (s : State) :
    s.reoffer.rtq.countP (fun i => i.command) = s.rtq.countP (fun i => i.command) :=
  reofferLines_commands _ s

@[simp] theorem nominateLines_commands (ls : List Nat) (s : State) :
    (nominateLines ls s).rtq.countP (fun i => i.command) = s.rtq.countP (fun i => i.command) := by
  induction ls generalizing s with
  | nil => rfl
  | cons line ls ih => simp [nominateLines, ih]

@[simp] theorem State.setThreshold_commands (s : State) (n : Nat) :
    (s.setThreshold n).rtq.countP (fun i => i.command) = s.rtq.countP (fun i => i.command) := by
  simp [State.setThreshold]

@[simp] theorem State.reportCorrected_commands (s : State) (src : RecordSource) (line : Nat) (l : Loc)
    (mask : WordMask) :
    (s.reportCorrected src line l mask).rtq.countP (fun i => i.command) = s.rtq.countP (fun i => i.command) := by
  simp [State.reportCorrected]

@[simp] theorem State.retireOnUe_commands (s : State) (line : Nat) :
    (s.retireOnUe line).rtq.countP (fun i => i.command) = s.rtq.countP (fun i => i.command) := by
  unfold State.retireOnUe
  (repeat' split) <;> simp [State.enqueue]

/-- A halt leaves no command item queued (R102). -/
theorem State.haltRtq_commands (s : State) : s.haltRtq.rtq.countP (fun i => i.command) = 0 := by
  unfold State.haltRtq
  split
  · simp [List.countP_eq_zero]
  next none => simpa [List.countP_eq_zero] using none

/-! ## Changes that control does not see -/

/-- Between s and t nothing changes that the command slot or the Patrol Unit stands for. -/
structure State.Quiet (s t : State) : Prop where
  running : t.cmd.running = s.cmd.running
  ctl : t.ctl.state = s.ctl.state
  patrol : t.patrol = s.patrol
  olt : t.olt = s.olt
  wait : t.arbiter.patrolWait = s.arbiter.patrolWait
  item : t.copy.item = s.copy.item
  queued : t.rtq.countP (fun i => i.command) = s.rtq.countP (fun i => i.command)

/-- No change is quiet. -/
theorem State.Quiet.rfl (s : State) : s.Quiet s := by
  constructor <;> exact Eq.refl _

theorem State.Quiet.items {s t : State} (q : s.Quiet t) : t.commandItems = s.commandItems := by
  rw [State.commandItems, State.commandItems, q.queued, q.item]

theorem State.Quiet.entries {s t : State} (q : s.Quiet t) : t.patrolEntries = s.patrolEntries := by
  rw [State.patrolEntries, State.patrolEntries, q.olt]

theorem State.Quiet.entryAt {s t : State} (q : s.Quiet t) (k : Nat) : t.entryAt k = s.entryAt k := by
  rw [State.entryAt, State.entryAt, q.olt]

theorem State.Agrees.quiet {s t : State} {n e : Nat} (h : s.Agrees n e) (q : s.Quiet t) : t.Agrees n e :=
  h.of_eq q.running q.ctl q.patrol q.wait

theorem State.Control.quiet {s t : State} (h : s.Control) (q : s.Quiet t) : t.Control := by
  rw [State.Control, q.items, q.entries]
  exact State.Agrees.quiet h q

/-- After a quiet change an entry that is no PATROL entry leaves the table. -/
theorem State.Control.leave {s t : State} {k : Nat} {e : OpenEntry} (h : s.Control) (q : s.Quiet t)
    (found : s.entryAt k = some e) (other : e.work ≠ .patrol) : (t.removeEntry k).Control := by
  have work := t.works_of_entryAt k e (by rw [q.entryAt, found])
  have entries := t.patrolEntries_removeEntry k (by simpa [work] using other)
  have items : (t.removeEntry k).commandItems = t.commandItems := by simp [State.commandItems]
  rw [State.Control, entries, items]
  exact State.Agrees.of_eq (State.Control.quiet h q) (by simp) (by simp) (by simp) (by simp)

/-- After a quiet change an entry of the same work stands in the table. -/
theorem State.Control.stay {s t : State} {k : Nat} {e x : OpenEntry} (h : s.Control) (q : s.Quiet t)
    (found : s.entryAt k = some x) (same : e.work = x.work) : (t.putOpen k e).Control := by
  have entries := t.patrolEntries_putOpen k x e (by rw [q.entryAt, found]) same
  have items : (t.putOpen k e).commandItems = t.commandItems := by simp [State.commandItems]
  rw [State.Control, entries, items]
  exact State.Agrees.of_eq (State.Control.quiet h q) (by simp) (by simp) (by simp) (by simp)

/-- After a quiet change an entry that is no PATROL entry is granted. -/
theorem State.Control.grant {s t : State} (h : s.Control) (q : s.Quiet t) (work : Work) (line : Nat)
    (cls : CheckClass) (other : work ≠ .patrol) : (t.createEntry work line cls).Control := by
  have quiet := State.Control.quiet h q
  cases empty : t.emptySlot with
  | none => simpa [State.createEntry, empty] using quiet
  | some k =>
    have entries : (t.createEntry work line cls).patrolEntries = t.patrolEntries := by
      simp [t.patrolEntries_createEntry work line cls k empty, other]
    have items : (t.createEntry work line cls).commandItems = t.commandItems := by simp [State.commandItems]
    rw [State.Control, entries, items]
    exact State.Agrees.of_eq quiet (by simp) (by simp) (by simp) (by simp)

/-- After a quiet change the PATROL entry, of which there is one, has left the table: the Patrol Unit still stands for
it. -/
theorem State.Control.land {s t : State} {k : Nat} {e : OpenEntry} (h : s.Control) (q : s.Quiet t)
    (found : s.entryAt k = some e) (patrol : e.work = .patrol) :
    (t.removeEntry k).Agrees (t.removeEntry k).commandItems 1 ∧ (t.removeEntry k).patrolEntries = 0 := by
  have quiet := State.Control.quiet h q
  have fewer := t.patrolEntries_removeEntry_patrol k e (by rw [q.entryAt, found]) patrol
  have items : (t.removeEntry k).commandItems = t.commandItems := by simp [State.commandItems]
  have one : t.patrolEntries = 1 := by
    cases quiet.patrol <;> omega
  rw [State.Control, one] at quiet
  rw [items]
  exact ⟨State.Agrees.of_eq quiet (by simp) (by simp) (by simp) (by simp), by omega⟩

end Sys2Proof.Machine
end

section
/-!
PROOFS. The Patrol Unit's steps, the start and end of an item, and entry to HALTED keep the command slot and the Patrol
Unit in agreement with their work (R41 to R54, R105 to R119, R179 to R181).
-/

namespace Sys2Proof.Machine

/-! ## The Patrol Unit's steps (R105 to R119) -/

/-- After a quiet change the Patrol Unit is replaced by one that stands as well and has a range as it had. -/
theorem State.Control.patrolPut {s t : State} (h : s.Control) (q : s.Quiet t) (p : PatrolUnit)
    (scrub : p.scrub.isSome = s.patrol.scrub.isSome) (timed : p.timed)
    (agrees : PatrolAgrees p s.ctl.state s.patrolEntries s.arbiter.patrolWait) : (t.setPatrol p).Control := by
  obtain ⟨slot, -, -⟩ := State.Control.quiet h q
  rw [q.patrol, ← scrub] at slot
  rw [← q.ctl, ← q.entries, ← q.wait] at agrees
  exact ⟨slot, timed, agrees⟩

/-- The end of a targeted scrub frees the slot and puts the Patrol Unit at rest (R117). -/
theorem State.endScrub_control (s : State)
    (slot : SlotAgrees (s.cmd.running.map (fun r => r.command)) s.ctl.state s.commandItems true)
    (timed : s.patrol.timed) (flown : s.patrolEntries = 0) (waited : s.arbiter.patrolWait = 0) :
    s.endScrub.Control := by
  obtain ⟨run, none_queued⟩ := slot.of_scrub
  have items : s.endScrub.commandItems = 0 := none_queued
  have entries : s.endScrub.patrolEntries = 0 := flown
  rw [State.Control, items, entries]
  refine ⟨?_, ?_, ?_⟩
  · have free : SlotAgrees none s.ctl.state 0 false := .free (by simp [run]) (by simp [run])
    simpa [State.endScrub] using free
  · simpa [State.endScrub, PatrolUnit.timed] using timed
  · have rest := PatrolUnit.rest_agrees { s.patrol with scrub := none, activity := .background } s.ctl.state rfl rfl
    simpa [State.endScrub, waited] using rest

/-- A targeted scrub with no line of it granted steps to its next line or ends (R117). -/
theorem State.scrubStep_control (s : State)
    (slot : SlotAgrees (s.cmd.running.map (fun r => r.command)) s.ctl.state s.commandItems true)
    (timed : s.patrol.timed) (scrub : s.patrol.scrub.isSome = true) (activity : s.patrol.activity = .scrub)
    (flown : s.patrolEntries = 0) (waited : s.arbiter.patrolWait = 0) : s.scrubStep.Control := by
  have ends := s.endScrub_control slot timed flown waited
  unfold State.scrubStep
  split
  next none => simp [none] at scrub
  next r _ =>
    split
    next l _ =>
      split
      · exact ⟨slot, timed, .issuing rfl (fun _ => activity) rfl rfl (iff_of_true rfl activity) slot.of_scrub.1 flown
          (by simp [waited])⟩
      · exact ends
    next => exact ends

/-- After the PATROL entry has gone the Patrol Unit rests or the scrub steps (R114). -/
theorem State.patrolEntryRemoved_control (s : State) (h : s.Agrees s.commandItems 1) (flown : s.patrolEntries = 0) :
    s.patrolEntryRemoved.Control := by
  obtain ⟨slot, timed, patrol⟩ := h
  have waited : s.arbiter.patrolWait = 0 := by
    cases patrol <;> simp_all
  unfold State.patrolEntryRemoved
  cases activity : s.patrol.activity with
  | background =>
    have rest := s.patrol.rest_agrees s.ctl.state activity (patrol.scrub_none activity)
    refine ⟨?_, by simpa [PatrolUnit.timed] using timed, ?_⟩
    · have items : (s.setPatrol s.patrol.rest).commandItems = s.commandItems := rfl
      simpa [items] using slot
    · have entries : (s.setPatrol s.patrol.rest).patrolEntries = 0 := flown
      simpa [entries, waited] using rest
  | scrub =>
    have scrub : s.patrol.scrub.isSome = true := by
      cases patrol <;> simp_all
    rw [scrub] at slot
    exact State.scrubStep_control _ slot timed scrub activity flown waited

/-- The candidate that fails its check is passed over (R111). -/
theorem State.patrolPassOver_control (s : State) (h : s.Control) (issuing : s.patrol.state = .issuing)
    (waited : s.arbiter.patrolWait = 0) : s.patrolPassOver.Control := by
  have ⟨slot, timed, patrol⟩ := h
  cases patrol with
  | off state => simp [state] at issuing
  | waiting state => simp [state] at issuing
  | inFlight state => simp [state] at issuing
  | issuing state mode timer candidate scrub running flown =>
    unfold State.patrolPassOver
    cases activity : s.patrol.activity with
    | background =>
      have none : s.patrol.scrub = none := by
        rw [← Option.not_isSome_iff_eq_none, scrub, activity]
        decide
      have wait := s.patrol.wait_agrees s.ctl.state activity none (fun off => by simpa [activity] using mode off)
      exact h.patrolPut (.rfl s) s.patrol.wait rfl timed (by rwa [flown, waited])
    | scrub =>
      have range := scrub.2 activity
      rw [range] at slot
      exact State.scrubStep_control _ slot timed range activity flown waited

/-- The candidate that passes its check takes off with the one PATROL entry (R111). -/
theorem State.patrolTakeOff_control (s : State) (line k : Nat) (h : s.Control) (issuing : s.patrol.state = .issuing)
    (waited : s.arbiter.patrolWait = 0) (empty : s.emptySlot = some k) : (s.patrolTakeOff line).Control := by
  obtain ⟨slot, timed, patrol⟩ := h
  cases patrol with
  | off state => simp [state] at issuing
  | waiting state => simp [state] at issuing
  | inFlight state => simp [state] at issuing
  | issuing state mode timer candidate scrub running flown =>
    have entries : (s.patrolTakeOff line).patrolEntries = 1 := by
      have one := s.patrolEntries_createEntry .patrol line .checked k empty
      rw [flown] at one
      exact one
    have items : (s.patrolTakeOff line).commandItems = s.commandItems := by
      simp [State.commandItems]
    rw [State.Control, entries, items]
    refine ⟨?_, ?_, .inFlight rfl ?_ ?_ ?_ rfl ?_⟩
    · simpa [State.patrolTakeOff] using slot
    · simpa [State.patrolTakeOff, PatrolUnit.timed] using timed
    · simpa [State.patrolTakeOff] using timer
    · simpa [State.patrolTakeOff] using candidate
    · simpa [State.patrolTakeOff] using scrub
    · simpa [State.patrolTakeOff] using waited

/-- The wait count of a unit that is granted becomes 0 (R163). -/
theorem State.clearWait_control (s : State) (h : s.Control) : s.clearWait.Control := by
  obtain ⟨slot, timed, patrol⟩ := h
  refine ⟨slot, timed, ?_⟩
  cases patrol with
  | off a b c d e f => exact .off a b c d e f rfl
  | waiting a b c d e f g => exact .waiting a b c d e f g rfl
  | issuing a b c d e f g => exact .issuing a b c d e f g (Nat.zero_le _)
  | inFlight a b c d e => exact .inFlight a b c d e rfl

theorem State.grantPatrolUnit_control (s : State) (h : s.Control) : s.grantPatrolUnit.Control := by
  unfold State.grantPatrolUnit
  split
  next chosen =>
    have candidate : s.patrolCandidate = true ∧ ∃ k, s.emptySlot = some k := by
      unfold State.choice at chosen
      cases empty : s.emptySlot <;> grind
    obtain ⟨candidate, k, empty⟩ := candidate
    simp only [State.patrolCandidate, decide_eq_true_eq] at candidate
    have cleared := s.clearWait_control h
    unfold State.grantPatrol
    split
    · exact h
    · split
      · exact State.patrolTakeOff_control _ _ k cleared candidate.1 rfl empty
      · exact State.patrolPassOver_control _ cleared candidate.1 rfl
  all_goals exact h

/-- A background sweep ends: the unit waits for the next one or turns OFF (R109). -/
theorem State.endSweep_control (s : State) (h : s.Control) (activity : s.patrol.activity = .background)
    (scrub : s.patrol.scrub = none) (flown : s.patrolEntries = 0) (waited : s.arbiter.patrolWait = 0) :
    s.endSweep.Control := by
  have quiet : s.Quiet (((s.offer (sweepRecord (s.patrol.sweep + 1))).count .sweeps).latch .sweep).decaySuspects := by
    constructor <;> simp
  unfold State.endSweep
  dsimp only
  rw [quiet.patrol]
  cases mode : s.patrol.mode with
  | continuous =>
    refine h.patrolPut quiet _ rfl h.timed ?_
    rw [flown, waited]
    exact PatrolUnit.wait_agrees _ _ activity scrub (by simp)
  | single =>
    refine h.patrolPut quiet _ rfl h.timed ?_
    rw [flown, waited]
    exact PatrolUnit.turnOff_agrees _ _ activity scrub
  | off =>
    refine h.patrolPut quiet _ rfl h.timed ?_
    rw [flown, waited]
    exact PatrolUnit.turnOff_agrees _ _ activity scrub

/-- A timer expires only in WAITING; a background line is chosen, the sweep ends, or the unit waits on (R107, R108). -/
theorem State.expireTimer_control (s : State) (h : s.Control) : s.expireTimer.Control := by
  unfold State.expireTimer
  split
  · exact h
  next i expiring =>
    cases h.patrol with
    | off _ _ timer => simp [timer] at expiring
    | issuing _ _ timer => simp [timer] at expiring
    | inFlight _ timer => simp [timer] at expiring
    | waiting state activity mode timer candidate scrub flown waited =>
      unfold State.timerExpiry State.chooseBackground
      (repeat' split)
      next running _ _ _ =>
        exact h.patrolPut (.rfl s) _ rfl h.timed
          (.issuing rfl (fun off => absurd off mode) rfl rfl (by simp [scrub, activity, PatrolUnit.choose]) running flown
            (by simp [waited]))
      next => exact s.endSweep_control h activity scrub flown waited
      next =>
        refine h.patrolPut (.rfl s) _ rfl h.timed ?_
        rw [flown, waited]
        exact PatrolUnit.wait_agrees _ _ activity scrub mode
      next =>
        refine h.patrolPut (.rfl s) _ rfl h.timed ?_
        rw [flown, waited]
        exact s.patrol.wait_agrees _ activity scrub mode

/-- Where the controller leaves RUNNING a background candidate is withdrawn, and the Patrol Unit stands in any other
state of the controller (R110, R119). -/
theorem State.patrolLeaveRunning_agrees (s : State) {c : CtlState} {e : Nat} (d : CtlState)
    (h : PatrolAgrees s.patrol c e s.arbiter.patrolWait) (scrub : s.patrol.scrub = none) :
    PatrolAgrees s.patrolLeaveRunning.patrol d e s.patrolLeaveRunning.arbiter.patrolWait := by
  unfold State.patrolLeaveRunning
  split
  next issuing =>
    cases h with
    | off state => simp [state] at issuing
    | waiting state => simp [state] at issuing
    | inFlight state => simp [state] at issuing
    | issuing state mode timer candidate range running flown =>
      have activity : s.patrol.activity ≠ .scrub := fun scrubs => by simpa [scrub] using range.2 scrubs
      have background : s.patrol.activity = .background := by
        cases a : s.patrol.activity <;> simp_all
      rw [flown]
      exact s.patrol.setBack.wait_agrees d (by simpa using background) (by simpa using scrub)
        (by simpa using fun off => activity (mode off))
  next other => exact h.of_ctl fun issuing => absurd issuing other

/-- The Patrol Unit after a halt: no scrub and no candidate that waits for a grant (R118, R119). -/
theorem State.patrolHalt_agrees (s : State) {c : CtlState} {e : Nat} (d : CtlState)
    (h : PatrolAgrees s.patrol c e s.arbiter.patrolWait) :
    PatrolAgrees s.patrolHalt.patrol d e s.patrolHalt.arbiter.patrolWait ∧ s.patrolHalt.patrol.scrub = none := by
  unfold State.patrolHalt
  split
  next none =>
    refine ⟨s.patrolLeaveRunning_agrees d h none, ?_⟩
    unfold State.patrolLeaveRunning
    split <;> simp [none, State.clearWait]
  next r some =>
    dsimp only
    split
    next issuing =>
      refine ⟨?_, by simp [State.clearWait]⟩
      have flown : e = 0 := by
        cases h <;> simp_all
      rw [flown]
      exact PatrolUnit.rest_agrees _ d rfl rfl
    next other =>
      refine ⟨?_, rfl⟩
      cases h with
      | off _ _ _ _ scrub => simp [scrub] at some
      | waiting _ _ _ _ _ scrub => simp [scrub] at some
      | issuing state => exact absurd state other
      | inFlight state timer candidate _ flown waited =>
        exact .inFlight state timer candidate (by simp) flown waited


/-! ## Items of the Copy Unit (R41 to R54) -/

/-- The end of an item frees the slot of the command whose item it was (R53). -/
theorem State.completeItem_control (s : State) (i : RetireItem) (r : CmdResult)
    (h : s.Agrees (s.commandItems + i.command.toNat) s.patrolEntries) : (s.completeItem i r).Control := by
  unfold State.completeItem
  split
  next command =>
    rw [command] at h
    exact ⟨h.slot.item_ended, h.timed, h.patrol⟩
  next other =>
    simpa [other] using h

theorem State.endItem_control (s : State) (i : RetireItem) (r : CmdResult) (h : s.Control)
    (item : s.copy.item = some i) : (s.endItem i r).Control := by
  refine State.completeItem_control _ i r ?_
  let t := (s.setCopy s.copy.ended).setOlt { s.olt with slots := s.olt.slots.map releaseHold }
  have items : t.commandItems + i.command.toNat = s.commandItems := by
    simp [t, State.commandItems, item, CopyUnit.ended]
  have entries : t.patrolEntries = s.patrolEntries := by
    rw [State.patrolEntries_eq, State.patrolEntries_eq]
    exact congrArg _ (works_releaseHold s.olt.slots)
  change t.Agrees (t.commandItems + i.command.toNat) t.patrolEntries
  rw [items, entries]
  exact State.Agrees.of_eq h rfl rfl rfl rfl

/-- An item leaves the queue for a Copy Unit without an item, which then holds it or ends it at once (R42). -/
theorem State.startMove_control (s : State) (i : RetireItem)
    (h : s.Agrees (s.commandItems + i.command.toNat) s.patrolEntries) (item : s.copy.item = none)
    (resting : s.lineCopying i.line = false) : (s.startMove i).Control := by
  unfold State.startMove
  rw [resting]
  simp only [Bool.false_eq_true, ↓reduceIte]
  split
  next =>
    have quiet : s.Quiet ((s.offer (exhaustedRecord i.line)).count .retireFailed) := by
      constructor <;> simp
    refine State.completeItem_control _ i _ ?_
    rw [quiet.items, quiet.entries]
    exact h.quiet quiet
  next n _ =>
    let t := (s.beginMove i.line i.origin.remap n).setCopy ((s.beginMove i.line i.origin.remap n).copy.begin_ i)
    have items : t.commandItems = s.commandItems + i.command.toNat := by
      simp [t, State.commandItems, item, CopyUnit.begin_]
    have entries : t.patrolEntries = s.patrolEntries := by
      simp [t, State.patrolEntries]
    change t.Agrees t.commandItems t.patrolEntries
    rw [items, entries]
    exact h.of_eq (by simp [t]) (by simp [t]) (by simp [t]) (by simp [t])

/-- The same of a release (R43). -/
theorem State.startRelease_control (s : State) (i : RetireItem)
    (h : s.Agrees (s.commandItems + i.command.toNat) s.patrolEntries) (item : s.copy.item = none) :
    (s.startRelease i).Control := by
  have ends := s.completeItem_control i .notRemapped h
  unfold State.startRelease
  split
  · exact ends
  · split
    next c m _ =>
      have items (t : State) (queue : t.rtq = s.rtq) (begun : t.copy.item = some i) :
          t.commandItems = s.commandItems + i.command.toNat := by
        simp [State.commandItems, item, queue, begun]
      dsimp only
      rw [State.Control, items _ (by simp) (by simp [CopyUnit.begin_])]
      exact h.of_eq (by simp) (by simp) (by simp) (by simp)
    all_goals exact ends

/-- An IDLE Copy Unit takes an item from the queue: a command item is then its own, or has ended (R41). -/
theorem State.startItem_control (s : State) (h : s.Control) (sound : s.remapSound) (idle : s.copy.state = .idle) :
    s.startItem.Control := by
  obtain ⟨item, books⟩ := s.books_of_idle sound idle
  unfold State.startItem
  split
  · exact h
  next i rest queue =>
    let t := (s.setRtq rest).setCopy { s.copy with itemNo := s.copy.itemNo + 1 }
    have items : t.commandItems + i.command.toNat = s.commandItems := by
      cases command : i.command <;> simp [t, State.commandItems, item, queue, command]
    have taken : t.Agrees (t.commandItems + i.command.toNat) t.patrolEntries := by
      rw [items]
      exact State.Agrees.of_eq h rfl rfl rfl rfl
    have resting : s.lineCopying i.line = false := by
      have none_copying : ¬ s.lineCopying i.line = true := by
        rw [s.lineCopying_iff i.line books.lines]
        rintro ⟨e, mem, -, copying⟩
        simpa [copying] using books.copying e mem
      simpa using none_copying
    have requeue (u : State) (hu : u.Control) : u.reoffer.Control :=
      hu.quiet (by constructor <;> simp)
    cases i.action with
    | move => exact requeue _ (t.startMove_control i taken item resting)
    | release => exact requeue _ (t.startRelease_control i taken item)

theorem State.commit_control (s : State) (i : RetireItem) (h : s.Control) (item : s.copy.item = some i) :
    (s.commit i).Control := by
  unfold State.commit
  split <;> exact State.endItem_control _ i _ (h.quiet (by constructor <;> simp)) (by simpa using item)

@[simp] theorem State.issueTarget_item (s : State) : s.issueTarget.copy.item = s.copy.item := by
  unfold State.issueTarget
  (repeat' split) <;> simp

@[simp] theorem State.issueVerify_item (s : State) : s.issueVerify.copy.item = s.copy.item := by
  unfold State.issueVerify
  split <;> simp

/-- The verify read of the current item completes (R48 to R52). -/
theorem State.verifyOutcome_control (s : State) (i : RetireItem) (o : LineOutcome) (h : s.Control)
    (item : s.copy.item = some i) : (s.verifyOutcome i o).Control := by
  have ends (t : State) (r : CmdResult) (q : s.Quiet t) : (t.endItem i r).Control :=
    t.endItem_control i r (h.quiet q) (by rw [q.item, item])
  unfold State.verifyOutcome
  split
  · unfold State.verifyGood
    (repeat' split)
    · exact h.quiet (by constructor <;> simp)
    · exact h.quiet (by constructor <;> simp)
    · exact s.commit_control i h item
  · unfold State.verifyFailed
    split
    · unfold State.moveVerifyFailed
      dsimp only
      (repeat' split)
      · exact h.quiet (by constructor <;> simp)
      · exact ends _ _ (by constructor <;> simp)
      · exact ends _ _ (by constructor <;> simp)
    · exact ends _ _ (by constructor <;> simp)

/-! ## Entry to HALTED (R179 to R181) -/

/-- The entries that a halt removes are no PATROL entries (R180). -/
theorem State.works_of_haltRemovesSlot (s : State) (k : Nat) (h : s.haltRemovesSlot k = true) :
    s.works[k]? ≠ some (some .patrol) := by
  unfold State.haltRemovesSlot at h
  split at h
  next e found =>
    rw [s.works_of_entryAt k e found]
    rw [e.haltRemoves_eq, Bool.and_eq_true, decide_eq_true_eq] at h
    simpa using h.2
  next => cases h

theorem removeEntries_patrolEntries (ks : List Nat) (s : State) (h : ∀ k ∈ ks, s.works[k]? ≠ some (some .patrol)) :
    (removeEntries ks s).patrolEntries = s.patrolEntries := by
  induction ks generalizing s with
  | nil => rfl
  | cons k ks ih =>
    have later : ∀ j ∈ ks, (s.removeEntry k).works[j]? ≠ some (some .patrol) := by
      intro j mem
      have other := h j (List.mem_cons_of_mem k mem)
      cases found : s.entryAt k with
      | none => simpa [State.removeEntry, found] using other
      | some e =>
        rw [s.works_removeEntry k e found, List.getElem?_set]
        split
        · split <;> simp
        · exact other
    rw [removeEntries, ih _ later, s.patrolEntries_removeEntry k (h k (by simp))]

theorem State.haltTable_patrolEntries (s : State) : s.haltTable.patrolEntries = s.patrolEntries :=
  removeEntries_patrolEntries _ s fun k mem => s.works_of_haltRemovesSlot k (List.mem_filter.1 mem).2

theorem State.copyHalt_patrolEntries (s : State) : s.copyHalt.patrolEntries = s.patrolEntries := by
  unfold State.copyHalt
  split
  · rfl
  · have table : (s.abortEntry ‹RetireItem›.line .free).olt = s.olt := by simp
    simp only [State.patrolEntries_eq, State.works, State.endItem, State.completeItem_frame, State.setOlt_olt,
      State.setCopy_olt, works_releaseHold, table]

theorem State.copyHalt_item (s : State) : s.copyHalt.copy.item = none := by
  unfold State.copyHalt
  split
  next none => exact none
  next => simp [State.endItem, CopyUnit.ended]

theorem State.patrolHalt_timed (s : State) (h : s.patrol.timed) : s.patrolHalt.patrol.timed := by
  unfold State.patrolHalt State.patrolLeaveRunning
  dsimp only
  (repeat' split) <;> simpa [PatrolUnit.timed, State.clearWait] using h

/-- The effects of a halt on the work in flight end the command in progress with its work (R54, R102, R118, R181). -/
theorem State.haltWork_control (s : State) {c : CtlState} (halted : s.ctl.state = .halted)
    (slot : SlotAgrees (s.cmd.running.map (fun r => r.command)) c s.commandItems s.patrol.scrub.isSome)
    (fill : c ≠ .initializing) (timed : s.patrol.timed)
    (patrol : PatrolAgrees s.patrol c s.patrolEntries s.arbiter.patrolWait) :
    s.haltPorts.haltTable.copyHalt.patrolHalt.haltRtq.haltStop.Control := by
  let t := s.haltPorts.haltTable.copyHalt
  let f := t.patrolHalt.haltRtq.haltStop
  have entries : f.patrolEntries = s.patrolEntries := by
    have table : f.patrolEntries = t.patrolEntries := by simp [f, State.patrolEntries]
    have ports : s.haltPorts.patrolEntries = s.patrolEntries := by simp [State.patrolEntries]
    rw [table, State.copyHalt_patrolEntries, State.haltTable_patrolEntries, ports]
  have items : f.commandItems = 0 := by
    have item : f.copy.item = none := by simpa [f] using State.copyHalt_item s.haltPorts.haltTable
    have queued : f.rtq.countP (fun i => i.command) = 0 := by simpa [f] using t.patrolHalt.haltRtq_commands
    simp only [State.commandItems, queued, item]
  have agrees := t.patrolHalt_agrees (c := c) (e := s.patrolEntries) .halted (by simpa [t] using patrol)
  have free : f.cmd.running = none := by
    obtain ⟨ended, stays⟩ := s.halt_ends
    by_cases working : (∃ i, s.copy.item = some i ∧ i.command = true) ∨ (∃ r, s.patrol.scrub = some r) ∨
        (∃ i ∈ s.rtq, i.command = true) ∨ ∃ r, s.cmd.running = some r ∧ r.command = .stop
    · exact congrArg CommandSlot.running (ended working).1
    · have same : f.cmd.running = s.cmd.running := congrArg CommandSlot.running (stays working).1
      obtain ⟨no_item, no_scrub, no_queued, no_stop⟩ := by simpa only [not_or] using working
      have none_of : s.commandItems = 0 := by
        have queued : s.rtq.countP (fun i => i.command) = 0 := by simpa [List.countP_eq_zero] using no_queued
        rw [State.commandItems, queued]
        cases item : s.copy.item with
        | none => rfl
        | some i => simpa [item] using no_item
      have scrub : s.patrol.scrub.isSome = false := by
        cases range : s.patrol.scrub with
        | none => rfl
        | some r => exact absurd ⟨r, range⟩ no_scrub
      rw [none_of, scrub] at slot
      rw [same]
      simpa using slot.halt_free fill (by simpa using no_stop)
  change f.Control
  rw [State.Control, items, entries]
  have ctl : f.ctl.state = .halted := by simpa [f, t] using halted
  refine ⟨?_, ?_, ?_⟩
  · rw [free, ctl]
    simpa [f, agrees.2] using SlotAgrees.free (c := .halted) (by decide) (by decide)
  · simpa [f] using t.patrolHalt_timed (by simpa [t] using timed)
  · rw [ctl]
    simpa [f] using agrees.1

/-- HALT_ON_UE acts in RUNNING and DRAINING (R86). -/
theorem State.haltOnUe_control (s : State) (line : Nat) (h : s.Control) : (s.haltOnUe line).Control := by
  unfold State.haltOnUe
  split
  next halts =>
    simp only [Bool.and_eq_true, decide_eq_true_eq] at halts
    let c := { s.ctl with state := .halted, haltReason := .ueOnDemand }
    let t := ((s.setCtl c).offer (haltedRecord line)).latch .halted
    have items : t.commandItems = s.commandItems := by simp [t, State.commandItems]
    have entries : t.patrolEntries = s.patrolEntries := by simp [t, State.patrolEntries]
    refine t.haltWork_control (c := s.ctl.state) (by simp [t, c]) ?_ ?_ ?_ ?_
    · simpa [items, t] using h.slot
    · rintro filling
      simp [filling] at halts
    · simpa [t] using h.timed
    · simpa [entries, t] using h.patrol
  next => exact h

end Sys2Proof.Machine
end

section
/-!
PROOFS. Every step keeps the command slot and the Patrol Unit in agreement with their work (R20, R105, R187, R189): the
engine's rows, the due steps, the grants, the Copy Unit's rows, the commands, the register writes and the resets.
-/

namespace Sys2Proof.Machine

/-! ## The engine's rows (R68 to R81) -/

/-- The issue of an entry: a demand entry stays or is answered and leaves, a PATROL entry reads or is skipped (R68). -/
theorem State.issueEntry_control (s : State) (k : Nat) (h : s.Control) : (s.issueEntry k).Control := by
  unfold State.issueEntry
  split
  · exact h
  next e found =>
    have reads (l : Loc) (decoded : Bool) : (s.issueEntryRead k e l decoded).Control :=
      h.stay (by constructor <;> simp) found (by rfl)
    split
    next patrol =>
      split
      · have landed := h.land (.rfl s) found patrol
        have quiet : (s.removeEntry k).Quiet ((s.removeEntry k).count .patrolSkipped) := by constructor <;> simp
        refine State.patrolEntryRemoved_control _ ?_ ?_
        · rw [quiet.items]
          exact landed.1.quiet quiet
        · rw [quiet.entries]
          exact landed.2
      · exact reads _ _
    next => exact reads _ _
    next port tag read =>
      split
      · exact reads _ _
      · unfold State.serveRead
        dsimp only
        split
        · exact h.leave (by constructor <;> simp) found (by simp [read])
        · exact h.leave (by constructor <;> simp) found (by simp [read])
    next port tag mask data write =>
      split
      · unfold State.issueArrayWrite
        split
        · exact h.stay (by constructor <;> simp) found (by rfl)
        · exact reads _ _
      · unfold State.issueBufferWrite
        split
        · exact h.stay (.rfl s) found (by rfl)
        · split
          · exact h.leave (by constructor <;> simp) found (by simp [write])
          · exact h.stay (by constructor <;> simp) found (by rfl)

/-- An entry whose operation completes still stands in its slot, and the completion is quiet. -/
theorem State.finishOp_quiet (s : State) (op : ArrayOp) : s.Quiet (s.finishOp op) := by
  constructor <;> simp

theorem State.readDecoded_control (s : State) (k : Nat) (e : OpenEntry) (p : PortId) (t : Tag) (r : LineRead)
    (h : s.Control) (found : s.entryAt k = some e) (other : e.work ≠ .patrol) :
    (s.readDecoded k e p t r).Control := by
  unfold State.readDecoded
  split
  · exact h.leave (by constructor <;> simp) found other
  · unfold State.readCorrected
    dsimp only
    split
    · exact h.stay (by constructor <;> simp) found (by rfl)
    · exact h.leave (by constructor <;> simp) found other
  · exact State.haltOnUe_control _ _ (h.leave (by constructor <;> simp) found other)
  · exact h.leave (by constructor <;> simp) found other

theorem State.demandReadDone_control (s : State) (k : Nat) (h : s.Control) : (s.demandReadDone k).Control := by
  unfold State.demandReadDone
  split
  · exact h
  next e op here =>
    have done := h.quiet (s.finishOp_quiet op)
    have found := (s.entryOp_spec k e op here).1
    split
    next read _ _ => exact State.readDecoded_control _ k e _ _ _ done found (by simp [read])
    next read _ _ => exact done.leave (by constructor <;> simp) found (by simp [read])
    next => exact h

theorem State.partialUncorrectable_control (s : State) (k : Nat) (e : OpenEntry) (p : PortId) (r : LineRead)
    (h : s.Control) (found : s.entryAt k = some e) : (s.partialUncorrectable k e p r).Control := by
  have stays : ((s.issuePoison e.loc e.line (.engine k)).putOpen k
      { e with state := .writing, result := some { outcome := r.outcome, corrected := r.corrected } }).Control :=
    h.stay (by constructor <;> simp) found (by rfl)
  exact stays.quiet (by constructor <;> simp [State.partialUncorrectable])

theorem State.partialReadDone_control (s : State) (k : Nat) (h : s.Control) : (s.partialReadDone k).Control := by
  unfold State.partialReadDone
  split
  · exact h
  next e op here =>
    have done := h.quiet (s.finishOp_quiet op)
    have found : (s.finishOp op).entryAt k = some e := (s.entryOp_spec k e op here).1
    split
    next write _ _ =>
      unfold State.partialDecoded
      split
      · exact done.stay (by constructor <;> simp) found (by rfl)
      · exact done.stay (by constructor <;> simp) found (by rfl)
      · exact State.partialUncorrectable_control _ k e _ _ done found
      · exact done.leave (by constructor <;> simp) found (by simp [write])
    next => exact done.stay (by constructor <;> simp) found (by rfl)
    next => exact h

theorem State.demandWriteDone_control (s : State) (k : Nat) (h : s.Control) : (s.demandWriteDone k).Control := by
  unfold State.demandWriteDone
  split
  · exact h
  next e op here =>
    have found := (s.entryOp_spec k e op here).1
    split
    next write _ =>
      split
      · exact h
      · exact h.leave (by constructor <;> simp) found (by simp [write])
    next => exact h

theorem State.poisonWriteDone_control (s : State) (k : Nat) (h : s.Control) : (s.poisonWriteDone k).Control := by
  unfold State.poisonWriteDone
  split
  · exact h
  next e op here =>
    have found := (s.entryOp_spec k e op here).1
    split
    next write _ =>
      split
      · exact State.haltOnUe_control _ _ (h.leave (by constructor <;> simp) found (by simp [write]))
      · exact h
    next => exact h

theorem State.sourceWriteDone_control (s : State) (k : Nat) (h : s.Control) : (s.sourceWriteDone k).Control := by
  unfold State.sourceWriteDone
  split
  · exact h
  next e op here =>
    have found := (s.entryOp_spec k e op here).1
    split
    next write _ =>
      split
      · exact h.leave (by constructor <;> simp) found (by simp [write])
      · exact h
    next => exact h

theorem State.writebackDone_control (s : State) (k : Nat) (h : s.Control) : (s.writebackDone k).Control := by
  unfold State.writebackDone
  split
  · exact h
  next e op here =>
    have found := (s.entryOp_spec k e op here).1
    split
    next read _ => exact h.leave (s.finishOp_quiet op) found (by simp [read])
    next => exact h

/-- The PATROL entry leaves the table after a quiet change, and the Patrol Unit goes on (R114). -/
theorem State.Control.endPatrol {s t : State} {k : Nat} {e : OpenEntry} (h : s.Control) (q : s.Quiet t)
    (found : s.entryAt k = some e) (patrol : e.work = .patrol) : (t.endPatrolEntry k).Control := by
  obtain ⟨agrees, flown⟩ := h.land q found patrol
  exact State.patrolEntryRemoved_control _ agrees flown

theorem State.patrolReadDone_control (s : State) (k : Nat) (h : s.Control) : (s.patrolReadDone k).Control := by
  unfold State.patrolReadDone
  split
  · exact h
  next e op here =>
    have found := (s.entryOp_spec k e op here).1
    split
    next patrol _ _ =>
      unfold State.patrolOutcome
      dsimp only
      split
      · exact h.endPatrol (by constructor <;> simp) found patrol
      · exact h.stay (by constructor <;> simp) found (by rfl)
      · split
        · exact h.stay (by constructor <;> simp) found (by rfl)
        · exact h.endPatrol (by constructor <;> simp) found patrol
      · exact h.endPatrol (by constructor <;> simp) found patrol
    next => exact h

theorem State.scrubWriteDone_control (s : State) (k : Nat) (h : s.Control) : (s.scrubWriteDone k).Control := by
  unfold State.scrubWriteDone
  split
  · exact h
  next e op here =>
    have found := (s.entryOp_spec k e op here).1
    split
    next patrol _ => exact h.endPatrol (s.finishOp_quiet op) found patrol
    next => exact h

/-! ## Due steps (R41, R67, R173, R177, R178) -/

theorem issueDue_control (n : Nat) (s : State) (h : s.Control) : (issueDue n s).Control := by
  induction n generalizing s with
  | zero => exact h
  | succ n ih =>
    simp only [issueDue]
    split
    · exact h
    next k _ => exact ih _ (s.issueEntry_control k h)

theorem State.settleIssues_control (s : State) (h : s.Control) : s.settleIssues.Control :=
  issueDue_control _ s h

theorem State.startIfDue_control (s : State) (h : s.Control) (sound : s.remapSound) : s.startIfDue.Control := by
  unfold State.startIfDue
  split
  next due => exact s.startItem_control h sound (s.idle_of_startDue due).1
  next => exact h

theorem startDueItems_control (n : Nat) (s : State) (h : s.Control) (sound : s.remapSound) :
    (startDueItems n s).Control := by
  induction n generalizing s with
  | zero => exact h
  | succ n ih =>
    simp only [startDueItems]
    split
    next due =>
      have idle := (s.idle_of_startDue due).1
      exact ih _ (s.startItem_control h sound idle) (s.startItem_remapSound sound idle)
    next => exact h

theorem State.newStep_control (s : State) (h : s.Control) : s.newStep.Control :=
  h.quiet ⟨rfl, rfl, rfl, rfl, rfl, rfl, rfl⟩

/-- The issues and starts that are due, with which every row but ENTRY_ISSUE begins. -/
theorem State.started_control (s : State) (h : s.Control) (sound : s.remapSound) :
    s.newStep.settleIssues.settleStarts.Control :=
  startDueItems_control _ _ (State.settleIssues_control _ (s.newStep_control h))
    (State.settleIssues_remapSound _ (s.newStep_remapSound sound))

/-- A fill, a drain or a STOP in HALTED ends in STOPPED with a free slot (R173, R177, R178). -/
theorem State.stop_control {s t : State} (h : s.Control)
    (ending : s.ctl.state = .initializing ∨ s.ctl.state = .draining ∨ s.runningIs .stop = true)
    (notRunning : s.ctl.state ≠ .running) (running : t.cmd.running = none) (ctl : t.ctl.state = .stopped)
    (rtq : t.rtq = s.rtq) (copy : t.copy = s.copy) (patrol : t.patrol = s.patrol) (olt : t.olt = s.olt)
    (arbiter : t.arbiter = s.arbiter) : t.Control := by
  have stop : s.runningIs .stop = true → s.cmd.running.map (fun r => r.command) = some .stop := by
    unfold State.runningIs
    cases s.cmd.running <;> simp
  obtain ⟨items, scrub⟩ := h.slot.of_ending (ending.imp_right (.imp_right stop))
  have items_t : t.commandItems = 0 := by rw [← items, State.commandItems, State.commandItems, rtq, copy]
  have entries : t.patrolEntries = s.patrolEntries := by rw [State.patrolEntries, State.patrolEntries, olt]
  rw [State.Control, items_t, entries]
  refine ⟨?_, ?_, ?_⟩
  · rw [running, ctl, patrol, scrub]
    exact .free (by decide) (by decide)
  · rw [patrol]
    exact h.timed
  · rw [patrol, arbiter]
    exact h.patrol.of_ctl fun issuing => absurd issuing (h.patrol.not_issuing notRunning)

theorem State.endFill_control (s : State) (h : s.Control) (due : s.fillEndDue = true) : s.endFill.Control := by
  have filling : s.ctl.state = .initializing := by
    simp only [State.fillEndDue, Bool.and_eq_true, decide_eq_true_eq] at due
    exact due.1.1
  exact State.stop_control h (.inl filling) (by simp [filling]) rfl rfl rfl rfl rfl rfl rfl

theorem State.enterStopped_control (s : State) (h : s.Control)
    (ending : s.ctl.state = .draining ∨ s.runningIs .stop = true) (notRunning : s.ctl.state ≠ .running) :
    s.enterStopped.Control :=
  State.stop_control h (.inr ending) notRunning rfl rfl rfl rfl rfl rfl rfl

theorem State.drainEnd_control (s : State) (h : s.Control) (due : s.drainDue = true) : s.enterStopped.Control := by
  have draining : s.ctl.state = .draining := by
    simp only [State.drainDue, Bool.and_eq_true, decide_eq_true_eq] at due
    exact due.1
  exact s.enterStopped_control h (.inl draining) (by simp [draining])

theorem State.haltEnd_control (s : State) (h : s.Control) (due : s.haltedStopDue = true) : s.enterStopped.Control := by
  simp only [State.haltedStopDue, Bool.and_eq_true, decide_eq_true_eq] at due
  obtain ⟨⟨halted, stop⟩, -⟩ := due
  exact s.enterStopped_control h (.inr stop) (by simp [halted])

theorem State.opened_control (s : State) (h : s.Control) (sound : s.remapSound) : s.opened.Control := by
  have started := s.started_control h sound
  unfold State.opened State.settle State.settleEnds
  split
  next due => exact State.endFill_control _ started due
  next =>
    split
    next due => exact State.drainEnd_control _ started due
    next =>
      split
      next due => exact State.haltEnd_control _ started due
      next => exact started


/-! ## Grants (R160 to R164) -/

/-- After a port grant the wait count has risen to at most 16 while the Patrol Unit is ISSUING, and stays 0 otherwise
(R163). -/
theorem State.arbiterAfter_control (s : State) (p : PortId) (h : s.Control) :
    (s.setArbiter (s.arbiterAfter p)).Control := by
  refine ⟨h.slot, h.timed, ?_⟩
  change PatrolAgrees s.patrol s.ctl.state s.patrolEntries (s.arbiterAfter p).patrolWait
  simp only [State.arbiterAfter]
  cases h.patrol with
  | off a b c d e f g => simpa [a] using PatrolAgrees.off a b c d e f g
  | waiting a b c d e f g i => simpa [a] using PatrolAgrees.waiting a b c d e f g i
  | issuing a b c d e f g i => exact .issuing a b c d e f g (by simp [a])
  | inFlight a b c d e f => simpa [a] using PatrolAgrees.inFlight a b c d e f

/-- A port head is refused, answered, or becomes a demand entry (R146, R164). -/
theorem State.grantHead_control (s : State) (p : PortId) (r : Request) (h : s.Control) : (s.grantHead p r).Control := by
  have refused (st : RespStatus) (d : DenyReason) : (s.refuse p r st d).Control := h.quiet (by constructor <;> simp)
  unfold State.grantHead
  split
  · exact refused _ _
  · split
    · split
      · exact h.grant (.rfl s) _ _ _ (by simp)
      · exact refused _ _
    · split
      · split
        · exact refused _ _
        · split
          · exact h.quiet (by constructor <;> simp)
          · exact h.grant (.rfl s) _ _ _ (by simp)
      · exact refused _ _

theorem State.grantPort_control (s : State) (p : PortId) (h : s.Control) : (s.grantPort p).Control := by
  unfold State.grantPort
  split
  · exact h
  next r rest _ =>
    have taken : (s.setPorts (s.ports.set p { (s.ports.get p) with queue := rest })).Control :=
      h.quiet (by constructor <;> simp)
    exact State.grantHead_control _ p r (State.arbiterAfter_control _ p taken)

theorem State.grantPortHead_control (s : State) (h : s.Control) : s.grantPortHead.Control := by
  unfold State.grantPortHead
  split
  · exact s.grantPort_control _ h
  all_goals exact h

theorem State.grantCopyRead_control (s : State) (h : s.Control) : s.grantCopyRead.Control := by
  unfold State.grantCopyRead State.grantCopy
  split
  · split
    · exact h
    · exact h.grant (.rfl s) _ _ _ (by simp)
  all_goals exact h

/-! ## The Copy Unit's rows (R45 to R56) -/

theorem State.copyReadDone_control (s : State) (k : Nat) (waiterFirst : Bool) (h : s.Control) :
    (s.copyReadDone k waiterFirst).Control := by
  have after (t : State) (e : OpenEntry) (q : s.Quiet t) (found : s.entryAt k = some e) (other : e.work ≠ .patrol) :
      (t.afterCopyRead k waiterFirst).Control := by
    have left : (t.removeEntry k).Control := h.leave q found other
    unfold State.afterCopyRead
    split
    · exact (State.settleIssues_control _ left).quiet (by constructor <;> simp)
    · exact left.quiet (by constructor <;> simp)
  unfold State.copyReadDone
  split
  · exact h
  next e op here =>
    have found := (s.entryOp_spec k e op here).1
    split
    next copy _ _ =>
      split
      · refine after _ e ?_ found (by simp [copy])
        unfold State.fillDecoded
        split <;> constructor <;> simp [State.fillBuffer]
      · exact h
    next copy _ _ =>
      split
      · exact after _ e (by constructor <;> simp [State.fillBuffer]) found (by simp [copy])
      · exact h
    next => exact h

theorem State.targetWriteDone_control (s : State) (h : s.Control) : s.targetWriteDone.Control := by
  unfold State.targetWriteDone
  split
  · exact h.quiet (by constructor <;> simp)
  · exact h

theorem State.verifyDone_control (s : State) (h : s.Control) : s.verifyDone.Control := by
  unfold State.verifyDone
  split
  next i op _ item _ =>
    exact State.verifyOutcome_control _ i _ (h.quiet (s.finishOp_quiet op)) (by simpa using item)
  next => exact h

theorem State.lateDone_control (s : State) (op : LateOp) (h : s.Control) : (s.lateDone op).Control := by
  cases op with
  | entry k =>
    change (s.lateEntry k).Control
    unfold State.lateEntry
    split
    · exact h
    next e op here =>
      have found := (s.entryOp_spec k e op here).1
      split
      next copy _ =>
        split
        · exact h
        · exact h.leave (s.finishOp_quiet op) found (by simp [copy])
      next => exact h
  | array phys => exact h.quiet (by constructor <;> simp [State.lateDone])

/-! ## Maintenance commands (R171 to R178, R189, R194 to R196) -/

/-- What a free slot stands for: no fill, no drain, no command item and no scrub (R187). -/
theorem State.Control.of_free {s : State} (h : s.Control) (free : s.cmd.running = none) :
    s.ctl.state ≠ .initializing ∧ s.ctl.state ≠ .draining ∧ s.commandItems = 0 ∧ s.patrol.scrub = none := by
  have slot := h.slot
  rw [free] at slot
  obtain ⟨fill, drain, items, scrub⟩ := slot.of_free
  exact ⟨fill, drain, items, by simpa using scrub⟩

/-- A command that ends at once leaves the slot free (R192). -/
theorem State.completeCommand_quiet (s : State) (r : CmdResult) (free : s.cmd.running = none) :
    s.Quiet (s.completeCommand r) :=
  ⟨free.symm, rfl, rfl, rfl, rfl, rfl, rfl⟩

/-- The commands that end at once and touch no block of control. -/
theorem State.take_quiet (s : State) (c : Command) (free : s.cmd.running = none)
    (at_once : c = .setRegion ∨ c = .clearRegion ∨ c = .loadRemap ∨ c = .markSpareBad ∨ c = .inject ∨
      c = .clearSuspects) : s.Quiet (s.take c) := by
  have running : (s.take c).cmd.running = none := by
    rcases at_once with rfl | rfl | rfl | rfl | rfl | rfl
    · simp only [State.take, State.takeSetRegion]
      (repeat' split) <;> simp
    · simp only [State.take, State.takeClearRegion]
      split <;> simp
    · simp only [State.take, State.takeLoadRemap]
      (repeat' split) <;> simp
    · simp only [State.take, State.takeMarkSpareBad]
      (repeat' split) <;> simp
    · simp only [State.take, State.takeInject]
      split <;> simp
    · simp [State.take, State.takeClearSuspects]
  refine ⟨running.trans free.symm, ?_, ?_, ?_, ?_, ?_, ?_⟩ <;>
    rcases at_once with rfl | rfl | rfl | rfl | rfl | rfl <;> simp [State.take]

/-- INIT holds the slot with the queue empty (R171). -/
theorem State.takeInit_control (s : State) (h : s.Control) (free : s.cmd.running = none)
    (taken : s.ctl.state = .uninit ∨ s.ctl.state = .stopped) : s.takeInit.Control := by
  obtain ⟨-, -, items, scrub⟩ := h.of_free free
  have notRunning : s.ctl.state ≠ .running := by
    rcases taken with c | c <;> simp [c]
  have item : s.takeInit.commandItems = 0 := by
    rw [State.commandItems] at items
    have copied := Nat.eq_zero_of_add_eq_zero_left items
    simpa [State.takeInit, State.commandItems] using copied
  have entries : s.takeInit.patrolEntries = s.patrolEntries := by simp [State.patrolEntries]
  rw [State.Control, item, entries]
  refine ⟨?_, h.timed, ?_⟩
  · have held := SlotAgrees.filling
    simpa [State.takeInit, State.holdSlot, scrub] using held
  · have rests := h.patrol.of_ctl (d := .initializing) fun issuing => absurd issuing (h.patrol.not_issuing notRunning)
    exact rests.of_fields rfl rfl rfl rfl rfl rfl

/-- START in STOPPED (R175). -/
theorem State.takeStart_control (s : State) (h : s.Control) (free : s.cmd.running = none) : s.takeStart.Control := by
  obtain ⟨-, -, items, scrub⟩ := h.of_free free
  have items_t : s.takeStart.commandItems = 0 := items
  rw [State.Control, items_t]
  refine ⟨?_, h.timed, h.patrol.of_ctl fun _ => rfl⟩
  have runs := SlotAgrees.free (c := .running) (by decide) (by decide)
  simpa [State.takeStart, scrub] using runs

/-- A STOP ends in STOPPED or holds the slot through a drain or a halt, where the Patrol Unit can stand in any state of
the controller (R176 to R178). -/
theorem State.stop_taken (s t : State) (h : s.Control) (free : s.cmd.running = none)
    (patrol : ∀ c, PatrolAgrees t.patrol c s.patrolEntries t.arbiter.patrolWait) (timed : t.patrol.timed)
    (scrub : t.patrol.scrub = none) (rtq : t.rtq = s.rtq) (copy : t.copy = s.copy) (olt : t.olt = s.olt) :
    t.enterStopped.Control ∧ (t.ctl.state = .draining ∨ t.ctl.state = .halted → (t.holdSlot .stop).Control) := by
  obtain ⟨-, -, items, -⟩ := h.of_free free
  have items_t : t.commandItems = 0 := by rw [← items, State.commandItems, State.commandItems, rtq, copy]
  have entries : t.patrolEntries = s.patrolEntries := by rw [State.patrolEntries, State.patrolEntries, olt]
  rw [← entries] at patrol
  have stopped : SlotAgrees none .stopped t.commandItems t.patrol.scrub.isSome := by
    rw [items_t, scrub]
    exact .free (by decide) (by decide)
  have held (c : t.ctl.state = .draining ∨ t.ctl.state = .halted) :
      SlotAgrees (some .stop) t.ctl.state t.commandItems t.patrol.scrub.isSome := by
    rw [items_t, scrub]
    rcases c with c | c
    · rw [c]
      exact .drains
    · rw [c]
      exact .waits
  exact ⟨⟨stopped, timed, patrol _⟩, fun c => ⟨held c, timed, patrol _⟩⟩

@[simp] theorem State.patrolLeaveRunning_fields (s : State) :
    s.patrolLeaveRunning.patrol.interval = s.patrol.interval ∧
    s.patrolLeaveRunning.patrol.scrub = s.patrol.scrub := by
  unfold State.patrolLeaveRunning
  split <;> simp [State.clearWait]

/-- A STOP in RUNNING withdraws the Patrol Unit's candidate and drains (R176, R177). -/
theorem State.stopRunning_control (s : State) (h : s.Control) (free : s.cmd.running = none) :
    s.stopRunning.Control := by
  obtain ⟨-, -, -, scrub⟩ := h.of_free free
  let d := s.setCtl { s.ctl with state := .draining }
  have rests (c : CtlState) : PatrolAgrees d.patrolLeaveRunning.patrol c s.patrolEntries
      d.patrolLeaveRunning.arbiter.patrolWait := d.patrolLeaveRunning_agrees c h.patrol scrub
  have taken := s.stop_taken d.patrolLeaveRunning h free rests (by simpa [d, PatrolUnit.timed] using h.timed)
    (by simpa [d] using scrub) (by simp [d]) (by simp [d]) (by simp [d])
  unfold State.stopRunning
  dsimp only
  split
  · exact taken.1
  · exact taken.2 (.inl (by simp [d]))

/-- A STOP in HALTED waits for the Open-Line Table to empty (R178). -/
theorem State.stopHalted_control (s : State) (h : s.Control) (free : s.cmd.running = none)
    (halted : s.ctl.state = .halted) : s.stopHalted.Control := by
  obtain ⟨-, -, -, scrub⟩ := h.of_free free
  have rests (c : CtlState) : PatrolAgrees s.patrol c s.patrolEntries s.arbiter.patrolWait :=
    h.patrol.of_ctl fun issuing => absurd issuing (h.patrol.not_issuing (by simp [halted]))
  have taken := s.stop_taken s h free rests h.timed scrub rfl rfl rfl
  unfold State.stopHalted
  split
  · exact taken.1
  · exact taken.2 (.inr halted)

theorem State.takeStop_control (s : State) (h : s.Control) (free : s.cmd.running = none) : s.takeStop.Control := by
  have ends (r : CmdResult) : (s.completeCommand r).Control := h.quiet (s.completeCommand_quiet r free)
  unfold State.takeStop
  split
  next => exact s.stopRunning_control h free
  next halted => exact s.stopHalted_control h free halted
  all_goals exact ends _

/-- A command's item is queued while its command holds the slot (R194, R195). -/
theorem State.offerCommandItem_control (s : State) (c : Command) (line : Nat) (a : ItemAction) (h : s.Control)
    (free : s.cmd.running = none) (holds : SlotAgrees (some c) s.ctl.state 1 false) :
    (s.offerCommandItem c line a).Control := by
  obtain ⟨-, -, items, scrub⟩ := h.of_free free
  unfold State.offerCommandItem
  split
  · let t := (s.holdSlot c).enqueue { line := line, action := a, origin := .command, command := true }
    have one : t.commandItems = 1 := by
      have more : t.commandItems = s.commandItems + 1 := by
        simp [t, State.commandItems, State.enqueue, List.countP_append]
        omega
      rw [more, items]
    change t.Agrees t.commandItems t.patrolEntries
    rw [one]
    refine ⟨?_, h.timed, h.patrol⟩
    change SlotAgrees (some c) s.ctl.state 1 s.patrol.scrub.isSome
    rwa [scrub]
  · exact h.quiet (s.completeCommand_quiet _ free)
  · exact h.quiet (s.completeCommand_quiet _ free)

/-- SCRUB holds the slot with its range, and background work gives way (R116). -/
theorem State.takeScrub_control (s : State) (h : s.Control) (free : s.cmd.running = none)
    (running : s.ctl.state = .running) : s.takeScrub.Control := by
  obtain ⟨-, -, items, -⟩ := h.of_free free
  unfold State.takeScrub
  split
  · exact h.quiet (s.completeCommand_quiet _ free)
  · let t := s.holdSlot .scrub
    have slot (u : State) (same : u.cmd = t.cmd) (ctl : u.ctl = s.ctl) (rtq : u.rtq = s.rtq) (copy : u.copy = s.copy) :
        SlotAgrees (u.cmd.running.map (fun r => r.command)) u.ctl.state u.commandItems true := by
      have items_u : u.commandItems = 0 := by rw [← items, State.commandItems, State.commandItems, rtq, copy]
      rw [same, ctl, running, items_u]
      exact .scrubs
    have patrol := h.patrol
    change (t.startScrub s.cmd.arg0.toNat s.cmd.arg1.toNat).Control
    unfold State.startScrub
    dsimp only
    split
    next off =>
      have off : s.patrol.state = .off := off
      exact State.scrubStep_control _ (slot _ rfl rfl rfl rfl) h.timed rfl rfl (patrol.grounded (by simp [off]))
        (patrol.not_waiting (by simp [off]))
    next waiting =>
      have waiting : s.patrol.state = .waiting := waiting
      exact State.scrubStep_control _ (slot _ rfl rfl rfl rfl) h.timed rfl rfl (patrol.grounded (by simp [waiting]))
        (patrol.not_waiting (by simp [waiting]))
    next issuing =>
      have issuing : s.patrol.state = .issuing := issuing
      have timed : t.patrol.timed := h.timed
      exact State.scrubStep_control _ (slot _ rfl rfl rfl rfl)
        (by simpa [State.clearWait, PatrolUnit.timed] using timed) (by simp [State.clearWait])
        (by simp [State.clearWait]) (patrol.grounded (by simp [issuing])) rfl
    next inFlight =>
      obtain ⟨timer, candidate, flown, waited⟩ := patrol.of_inFlight inFlight
      exact ⟨slot _ rfl rfl rfl rfl, h.timed, .inFlight inFlight timer candidate (by simp) flown waited⟩

/-- A command is taken in its controller states while the slot is free (R189, R193). -/
theorem State.tryTake_control (s : State) (c : Command) (h : s.Control) (free : s.cmd.running = none) :
    (s.tryTake c).Control := by
  have ends (r : CmdResult) : (s.completeCommand r).Control := h.quiet (s.completeCommand_quiet r free)
  unfold State.tryTake
  split
  next taken =>
    cases c with
    | init => exact s.takeInit_control h free (by simpa [Command.takenIn] using taken)
    | start => exact s.takeStart_control h free
    | stop => exact s.takeStop_control h free
    | retire =>
      have running : s.ctl.state = .running := by simpa [Command.takenIn] using taken
      simp only [State.take, State.takeRetire]
      split
      · exact ends _
      · exact s.offerCommandItem_control _ _ _ h free (by rw [running]; exact .retires)
    | release =>
      have running : s.ctl.state = .running := by simpa [Command.takenIn] using taken
      simp only [State.take, State.takeRelease]
      split
      · exact ends _
      · exact s.offerCommandItem_control _ _ _ h free (by rw [running]; exact .releases)
    | scrub => exact s.takeScrub_control h free (by simpa [Command.takenIn] using taken)
    | setRegion | clearRegion | loadRemap | markSpareBad | inject | clearSuspects =>
      exact h.quiet (s.take_quiet _ free (by simp))
  next => exact ends _

theorem State.writeCode_control (s : State) (code : Word32) (h : s.Control) : (s.writeCode code).Control := by
  unfold State.writeCode
  split
  · exact h.quiet ⟨rfl, rfl, rfl, rfl, rfl, rfl, rfl⟩
  next idle =>
    have free : s.cmd.running = none := by simpa [State.busy] using idle
    unfold State.takeCode
    split
    · exact h.quiet (s.completeCommand_quiet _ free)
    · exact s.tryTake_control _ h free

/-! ## Register writes (R106, R115, R184) -/

/-- The interval that a write gives lies within its bounds (R106). -/
theorem intervalField_bounds (v : Word32) (old : Nat) (h : 1 ≤ old ∧ old ≤ 4095) :
    1 ≤ intervalField v old ∧ intervalField v old ≤ 4095 := by
  unfold intervalField
  split
  · exact h
  next given =>
    have width := (v.extractLsb' 16 12).isLt
    omega

/-- The Patrol Unit and its wait count change while its range stays. -/
theorem State.Control.patrolStands {s t : State} (h : s.Control) (cmd : t.cmd = s.cmd) (ctl : t.ctl = s.ctl)
    (rtq : t.rtq = s.rtq) (copy : t.copy = s.copy) (olt : t.olt = s.olt) (scrub : t.patrol.scrub = s.patrol.scrub)
    (timed : t.patrol.timed) (agrees : PatrolAgrees t.patrol s.ctl.state s.patrolEntries t.arbiter.patrolWait) :
    t.Control := by
  have items : t.commandItems = s.commandItems := by rw [State.commandItems, State.commandItems, rtq, copy]
  have entries : t.patrolEntries = s.patrolEntries := by rw [State.patrolEntries, State.patrolEntries, olt]
  rw [State.Control, items, entries]
  refine ⟨?_, timed, ?_⟩
  · rw [cmd, ctl, scrub]
    exact h.slot
  · rwa [ctl]

/-- A change of the mode is acted on by state and activity (R115). -/
theorem State.patrolModeChanged_control (s : State) (m : PatrolMode) (i : Nat) (h : s.Control)
    (timed : 1 ≤ i ∧ i ≤ 4095) :
    (s.setPatrol { s.patrol with mode := m, interval := i }).patrolModeChanged.Control := by
  let p : PatrolUnit := { s.patrol with mode := m, interval := i }
  have stands (t : State) (cmd : t.cmd = s.cmd) (ctl : t.ctl = s.ctl) (rtq : t.rtq = s.rtq) (copy : t.copy = s.copy)
      (olt : t.olt = s.olt) (scrub : t.patrol.scrub = s.patrol.scrub) (interval : t.patrol.interval = i)
      (agrees : PatrolAgrees t.patrol s.ctl.state s.patrolEntries t.arbiter.patrolWait) : t.Control :=
    h.patrolStands cmd ctl rtq copy olt scrub (by rwa [PatrolUnit.timed, interval]) agrees
  have keeps
      (works : s.patrol.activity = .background → s.patrol.state = .waiting ∨ s.patrol.state = .issuing → m ≠ .off) :
      (s.setPatrol p).Control :=
    stands _ rfl rfl rfl rfl rfl rfl rfl (h.patrol.with_mode m i works)
  have rests (t : State) (q : PatrolUnit) (same : t = s.setPatrol q) (wait : s.arbiter.patrolWait = 0)
      (flown : s.patrolEntries = 0) (scrub : q.scrub = s.patrol.scrub) (interval : q.interval = i)
      (agrees : PatrolAgrees q s.ctl.state 0 0) : t.Control := by
    subst same
    exact stands _ rfl rfl rfl rfl rfl scrub interval (by rw [flown]; simpa [wait] using agrees)
  unfold State.patrolModeChanged
  split
  next scrubs =>
    have scrubs : s.patrol.activity = .scrub := scrubs
    exact keeps fun background => by simp [scrubs] at background
  next background =>
    have background : s.patrol.activity = .background := background
    have none := h.patrol.scrub_none background
    split
    next off =>
      have off : s.patrol.state = .off := off
      split
      · exact keeps fun _ works => by simp [off] at works
      next mode =>
        exact rests _ p.wait rfl (h.patrol.not_waiting (by simp [off])) (h.patrol.grounded (by simp [off])) rfl rfl
          (p.wait_agrees _ background none mode)
    next waiting =>
      have waiting : s.patrol.state = .waiting := waiting
      split
      · exact rests _ p.turnOff rfl (h.patrol.not_waiting (by simp [waiting])) (h.patrol.grounded (by simp [waiting])) rfl
          rfl (p.turnOff_agrees _ background none)
      next mode => exact keeps fun _ _ => mode
    next issuing =>
      have issuing : s.patrol.state = .issuing := issuing
      split
      · refine stands _ rfl rfl rfl rfl rfl (by simp [State.clearWait]) (by simp [State.clearWait]) ?_
        rw [h.patrol.grounded (by simp [issuing])]
        exact p.setBack.turnOff_agrees s.ctl.state (by simpa using background) (by simpa using none)
      next mode => exact keeps fun _ _ => mode
    next inFlight =>
      have inFlight : s.patrol.state = .inFlight := inFlight
      exact keeps fun _ works => by simp [inFlight] at works

theorem State.writePatrolCfg_control (s : State) (v : Word32) (h : s.Control) : (s.writePatrolCfg v).Control := by
  have timed := intervalField_bounds v s.patrol.interval h.timed
  unfold State.writePatrolCfg
  dsimp only
  split
  next same =>
    exact h.patrolPut (.rfl s) _ rfl timed (h.patrol.of_fields rfl rfl same rfl rfl rfl)
  next => exact s.patrolModeChanged_control _ _ h timed

theorem State.busWrite_control (s : State) (r : Reg) (be : Enables) (v : Word32) (h : s.Control) :
    (s.busWrite r be v).Control := by
  unfold State.busWrite
  split
  · exact h
  · cases r with
    | cmdCode => exact s.writeCode_control v h
    | patrolCfg => exact s.writePatrolCfg_control v h
    | suspectCfg =>
      simp only [State.writeReg, State.writeSuspectCfg]
      split
      · exact h.quiet (by constructor <;> simp)
      · exact h
    | cmdStatus =>
      simp only [State.writeReg, State.writeStatus]
      split
      · exact h.quiet ⟨rfl, rfl, rfl, rfl, rfl, rfl, rfl⟩
      · exact h
    | _ => exact h.quiet (by constructor <;> simp [State.writeReg])

theorem State.windowWrite_control (s : State) (offset : BitVec 12) (be : Enables) (v : Word32) (h : s.Control) :
    (s.windowWrite offset be v).Control := by
  unfold State.windowWrite
  split
  · exact h
  · exact s.busWrite_control _ be v h

/-! ## Resets (R183, R187) -/

theorem State.reset_control : State.reset.Control :=
  ((State.controlSound_iff _).1 (by decide +kernel)).2

theorem State.powerOn_control (s : State) : s.powerOn.Control :=
  State.Agrees.of_eq State.reset_control rfl rfl rfl rfl

/-- A warm reset leads to UNINIT or STOPPED (R183). -/
theorem Controller.warm_state (c : Controller) : c.warm.state = .uninit ∨ c.warm.state = .stopped := by
  unfold Controller.warm
  split <;> simp

theorem State.warm_control (s : State) : s.warm.Control := by
  have resting := s.ctl.warm_state
  refine ⟨?_, State.reset_control.timed, State.reset_control.patrol.of_ctl (by rintro ⟨⟩)⟩
  change SlotAgrees none s.ctl.warm.state 0 false
  exact .free (by rintro c; simp [c] at resting) (by rintro c; simp [c] at resting)

/-! ## One command, one step -/

/-- The next state is the one that a command answers. -/
theorem State.control_of_next {u t : State} (h : (.next u : Result) = .next t) (control : u.Control) : t.Control :=
  Host.Outcome.next.inj h ▸ control

theorem State.fillIssue_quiet (s : State) : s.Quiet s.fillIssue := by
  unfold State.fillIssue
  split <;> constructor <;> simp

theorem State.issueIfDue_control (s : State) (k : Nat) (h : s.Control) : (s.issueIfDue k).Control := by
  unfold State.issueIfDue
  split
  · exact s.issueEntry_control k h
  · exact h

theorem State.endFillIfDue_control (s : State) (h : s.Control) : s.endFillIfDue.Control := by
  unfold State.endFillIfDue
  split
  next due => exact s.endFill_control h due
  next => exact h

theorem State.endDrainIfDue_control (s : State) (h : s.Control) : s.endDrainIfDue.Control := by
  unfold State.endDrainIfDue
  split
  next due => exact s.drainEnd_control h due
  next => exact h

theorem State.endHaltIfDue_control (s : State) (h : s.Control) : s.endHaltIfDue.Control := by
  unfold State.endHaltIfDue
  split
  next due => exact s.haltEnd_control h due
  next => exact h

theorem exec_control (c : Instr) (s t : State) (sound : s.remapSound) (control : s.Control)
    (h : exec c s = .next t) : t.Control := by
  have opened := s.opened_control control sound
  have started := s.started_control control sound
  have issued := State.settleIssues_control _ (s.newStep_control control)
  have issued_sound := State.settleIssues_remapSound _ (s.newStep_remapSound sound)
  have quiet : ∀ u : State, s.opened.Quiet u → u.Control := fun u => opened.quiet
  cases c with
  | powerOnReset => exact State.control_of_next h (State.powerOn_control _)
  | warmReset => exact State.control_of_next h (State.warm_control _)
  | grantPortHead => exact State.control_of_next h (State.grantPortHead_control _ opened)
  | grantCopyRead => exact State.control_of_next h (State.grantCopyRead_control _ opened)
  | grantPatrol => exact State.control_of_next h (State.grantPatrolUnit_control _ opened)
  | entryIssue k => exact State.control_of_next h (State.issueIfDue_control _ k (s.newStep_control control))
  | demandReadComplete k => exact State.control_of_next h (State.demandReadDone_control _ k opened)
  | partialWriteReadComplete k => exact State.control_of_next h (State.partialReadDone_control _ k opened)
  | demandWriteComplete k => exact State.control_of_next h (State.demandWriteDone_control _ k opened)
  | rmwPoisonWriteComplete k => exact State.control_of_next h (State.poisonWriteDone_control _ k opened)
  | sourceWriteComplete k => exact State.control_of_next h (State.sourceWriteDone_control _ k opened)
  | writebackComplete k => exact State.control_of_next h (State.writebackDone_control _ k opened)
  | patrolReadComplete k => exact State.control_of_next h (State.patrolReadDone_control _ k opened)
  | scrubWriteComplete k => exact State.control_of_next h (State.scrubWriteDone_control _ k opened)
  | copyReadComplete k w => exact State.control_of_next h (State.copyReadDone_control _ k w opened)
  | targetWriteComplete => exact State.control_of_next h (State.targetWriteDone_control _ opened)
  | verifyComplete => exact State.control_of_next h (State.verifyDone_control _ opened)
  | lateCompletion op => exact State.control_of_next h (State.lateDone_control _ op opened)
  | itemStart => exact State.control_of_next h (State.startIfDue_control _ issued issued_sound)
  | patrolTimerExpiry => exact State.control_of_next h (State.expireTimer_control _ opened)
  | fillWriteIssue => exact State.control_of_next h (quiet _ (State.fillIssue_quiet _))
  | initFillEnd => exact State.control_of_next h (State.endFillIfDue_control _ started)
  | drainComplete => exact State.control_of_next h (State.endDrainIfDue_control _ started)
  | haltedStopComplete => exact State.control_of_next h (State.endHaltIfDue_control _ started)
  | init | start | stop | setRegion | clearRegion | retire | release | loadRemap | markSpareBad | scrub | inject
  | clearSuspects => exact State.control_of_next h (State.busWrite_control _ _ _ _ opened)
  | unknownCommand code => exact State.control_of_next h (State.busWrite_control _ _ _ code opened)
  | commandRefused code => exact State.control_of_next h (State.busWrite_control _ _ _ code opened)
  | arrayCfgWrite be v | suspectCfgWrite be v | patrolCfgWrite be v | irqCauseWrite be v | irqEnableWrite be v
  | cmdStatusWrite be v | recPop be v | counterClear _ be v =>
    exact State.control_of_next h (State.busWrite_control _ _ be v opened)
  | registerWrite offset be v => exact State.control_of_next h (State.windowWrite_control _ offset be v opened)
  | arrayCellFault phys word bits =>
    simp only [exec, execArrayCellFault] at h
    split at h
    · exact State.control_of_next h (quiet _ (by constructor <;> simp))
    · cases h
  | resetRelease | requestAccept | fillWriteComplete =>
    exact State.control_of_next h (quiet _ (by constructor <;> simp))

/-- Settles O59: the remap table agrees by O56, and what is due and the command of a step keep the command slot and the
Patrol Unit in agreement. -/
theorem everyStepKeepsControlSound : Obligations.EveryStepKeepsControlSound := by
  intro s t _ sound h
  obtain ⟨remap, control⟩ := s.controlSound_iff.1 sound
  refine t.controlSound_iff.2 ⟨everyStepKeepsRemapSound s t remap h, ?_⟩
  unfold step at h
  split at h
  · exact State.control_of_next h (s.opened_control control remap)
  next c rest _ =>
    exact exec_control c (s.setPending rest) t (s.remapSound_of_eq remap rfl rfl rfl)
      (control.quiet ⟨rfl, rfl, rfl, rfl, rfl, rfl, rfl⟩) h

end Sys2Proof.Machine
end

section
/-!
PROOFS. What an offer and the crossing test make of a state rests on its records, counters and causes (and on the pool):
both commute with every change of other blocks. With this, a row that changes blocks around an offer is the offer
followed by the changes.
-/

namespace Sys2Proof.Machine

/-- The state with its records, causes and counters replaced: the blocks that an offer writes. -/
def State.withReports (s : State) (q : RecordQueue) (i : Interrupts) (n : Counters) : State :=
  { s with erq := q, irq := i, counters := n }

/-- A change of other blocks than the records, the causes and the counters, which does not look at these. -/
def KeepsReports (f : State → State) : Prop := ∀ s q i n, f (s.withReports q i n) = (f s).withReports q i n

/-- Such a change leaves the records, the causes and the counters as they are. -/
theorem KeepsReports.reports {f : State → State} (h : KeepsReports f) (s : State) :
    (f s).erq = s.erq ∧ (f s).irq = s.irq ∧ (f s).counters = s.counters := by
  have same : f s = (f s).withReports s.erq s.irq s.counters := h s s.erq s.irq s.counters
  rw [same]
  exact ⟨rfl, rfl, rfl⟩

/-- An offer writes the records, the causes and the counters and no other block (R124). -/
theorem State.offer_withReports (s : State) (r : Record) :
    s.offer r = s.withReports (s.offer r).erq (s.offer r).irq (s.offer r).counters := by
  apply State.eq_of_fields <;> simp [State.withReports]

/-- An offer commutes with a change of other blocks. -/
theorem KeepsReports.offer {f : State → State} (h : KeepsReports f) (s : State) (r : Record) :
    (f s).offer r = f (s.offer r) := by
  obtain ⟨erq, irq, counters⟩ := h.reports s
  obtain ⟨records, counted, causes⟩ := State.offer_congr (f s) s r erq counters irq
  calc (f s).offer r
      = (f s).withReports (s.offer r).erq (s.offer r).irq (s.offer r).counters := by
        rw [(f s).offer_withReports, records, counted, causes]
    _ = f (s.offer r) := by rw [← h, ← s.offer_withReports]

/-- The crossing test commutes with a change that leaves the pool too (R28). -/
theorem KeepsReports.noteCrossing {f : State → State} (h : KeepsReports f) (s : State) (before : Nat)
    (pool : (f s).pool = s.pool) : (f s).noteCrossing before = f (s.noteCrossing before) := by
  obtain ⟨erq, irq, counters⟩ := h.reports s
  rw [State.noteCrossing_eq, State.noteCrossing_eq, pool]
  split
  next crossed =>
    calc (f s).latch .sparesLow
        = (f s).withReports s.erq (s.irq.with .sparesLow) s.counters := by
          rw [← erq, ← irq, ← counters]
          rfl
      _ = f (s.latch .sparesLow) := (h s _ _ _).symm
  next => rfl

/-- A removal writes the Open-Line Table alone (R67). -/
theorem State.removeEntry_eq (s : State) (k : Nat) : s.removeEntry k = s.setOlt (s.removeEntry k).olt := by
  unfold State.removeEntry
  split <;> rfl

end Sys2Proof.Machine
end

section
/-!
PROOFS. The grants of the Copy Unit and of the Patrol Unit (R44, R111, R163, R164).
-/

namespace Sys2Proof.Machine

/-- The lowest empty slot (R64). -/
theorem State.emptySlot_eq (s : State) (k : Nat) (empty : s.entryAt k = none) (slot : k < s.olt.slots.length)
    (lower : ∀ j < k, (s.entryAt j).isSome = true) : s.emptySlot = some k := by
  rw [State.emptySlot, List.findIdx?_eq_some_iff_getElem]
  refine ⟨slot, by simpa [State.entryAt, List.getElem?_eq_getElem slot] using empty, fun j below => ?_⟩
  have inside : j < s.olt.slots.length := by omega
  simpa [State.entryAt, List.getElem?_eq_getElem inside, Option.isSome_iff_ne_none] using lower j below

/-- The Open-Line Table after a grant into slot k (R66). -/
def State.granted (s : State) (k : Nat) (work : Work) (line : Nat) (cls : CheckClass) : OpenTable :=
  { order := s.olt.order ++ [k], slots := s.olt.slots.set k (some
    { work := work, line := line, cls := cls, place := none, result := none,
      state := .blocked (match s.newestOf line with | some m => .entry m | none => .turn) }) }

/-- A grant writes the Open-Line Table alone (R66). -/
theorem State.createEntry_eq (s : State) (k : Nat) (work : Work) (line : Nat) (cls : CheckClass)
    (slot : s.emptySlot = some k) : s.createEntry work line cls = s.setOlt (s.granted k work line cls) := by
  unfold State.createEntry State.granted
  cases s.newestOf line <;> simp only [slot]

/-- A copy read takes the class of the line's region, or CHECKED outside every region (R44). -/
theorem State.grantCopyRead_eq (u : State) (i : RetireItem) (chosen : u.choice = some .copyRead)
    (item : u.copy.item = some i) :
    u.grantCopyRead = u.createEntry (.copyRead u.copy.itemNo) i.line (u.classOf i.line) := by
  simp only [State.grantCopyRead, chosen, State.grantCopy, item]

/-- The grant of the patrol makes its entry or passes the line over, by the check at the grant (R111). -/
theorem State.grantPatrolUnit_eq (u : State) (c : PatrolLine) (chosen : u.choice = some .patrol)
    (candidate : u.patrol.candidate = some c) :
    u.grantPatrolUnit = if u.patrolCheck c.line then u.clearWait.patrolTakeOff c.line
      else u.clearWait.patrolPassOver := by
  simp only [State.grantPatrolUnit, chosen, State.grantPatrol, candidate]
  rfl

/-- During the sweep a line qualifies in a CHECKED region with the patrol flag on, during a targeted scrub in every
CHECKED region (R111). -/
theorem State.patrolCheck_iff (u : State) (line : Nat) : u.patrolCheck line = true ↔
    ∃ g, u.regionOf line = some g ∧ g.cls = .checked ∧ (u.patrol.activity = .background → g.patrol = true) := by
  unfold State.patrolCheck
  cases u.regionOf line with
  | none => simp
  | some g => cases u.patrol.activity <;> simp [Region.swept, Region.scrubbed]

/-- The PATROL entry is made and the unit is IN_FLIGHT; a background line counts as visited (R111). -/
theorem State.patrolTakeOff_eq (u : State) (k line : Nat) (v : Bool) (slot : u.emptySlot = some k)
    (visited : (decide (u.patrol.activity = .background) || u.patrol.visited) = v) :
    u.clearWait.patrolTakeOff line = { u with
      olt := u.granted k .patrol line .checked
      arbiter := { pointer := u.arbiter.pointer, patrolWait := 0 }
      patrol := { u.patrol with state := .inFlight, visited := v } } := by
  subst visited
  rw [State.patrolTakeOff, State.createEntry_eq u.clearWait k _ _ _ slot]
  rfl

/-- A background line that no longer qualifies is passed over: the unit waits again (R111). -/
theorem State.patrolPassOver_background (u : State) (background : u.patrol.activity = .background) :
    u.clearWait.patrolPassOver = u.clearWait.setPatrol u.patrol.wait := by
  simp only [State.patrolPassOver, State.clearWait, State.setArbiter_patrol, background]

/-- A line of a targeted scrub that no longer qualifies is passed over: the scrub takes its next step (R111). -/
theorem State.patrolPassOver_scrub (u : State) (scrub : u.patrol.activity = .scrub) :
    u.clearWait.patrolPassOver = (u.clearWait.setPatrol { u.patrol with candidate := none }).scrubStep := by
  simp only [State.patrolPassOver, State.clearWait, State.setArbiter_patrol, scrub]

/-- Settles O12: each grant is that of the arbiter's choice; the patrol's is decided by the check at the grant. -/
theorem unitsGranted : Obligations.UnitsGranted := by
  intro s k u empty size lower olt
  have slot := u.emptySlot_eq k empty size lower
  have copyRow : exec .grantCopyRead s = .next u.grantCopyRead := rfl
  have patrolRow : exec .grantPatrol s = .next u.grantPatrolUnit := rfl
  clear_value u
  refine ⟨fun i chosen item => ?_, fun c chosen candidate => ?_⟩
  · rw [copyRow, u.grantCopyRead_eq i chosen item, u.createEntry_eq k _ _ _ slot, State.classOf]
    cases u.regionOf i.line <;> rfl
  · intro arb
    rw [u.grantPatrolUnit_eq c chosen candidate] at patrolRow
    have check := u.patrolCheck_iff c.line
    refine ⟨fun g region cls background on => ?_, fun g region cls scrub => ?_, fun lost background => ?_,
      fun lost scrub => ?_⟩
    · rw [patrolRow, if_pos (check.2 ⟨g, region, cls, fun _ => on⟩),
        u.patrolTakeOff_eq k c.line true slot (by simp [background])]
      rfl
    · rw [patrolRow, if_pos (check.2 ⟨g, region, cls, by simp [scrub]⟩),
        u.patrolTakeOff_eq k c.line u.patrol.visited slot (by simp [scrub])]
      rfl
    · have fails : ¬ u.patrolCheck c.line = true := by
        intro ok
        obtain ⟨g, region, cls, on⟩ := check.1 ok
        simpa [cls, on background] using lost g region
      rw [patrolRow, if_neg fails, u.patrolPassOver_background background]
      rfl
    · have fails : ¬ u.patrolCheck c.line = true := by
        intro ok
        obtain ⟨g, region, cls, -⟩ := check.1 ok
        simpa [cls] using lost g region
      rw [patrolRow, if_neg fails, u.patrolPassOver_scrub scrub]
      rfl

end Sys2Proof.Machine
end

section
/-!
PROOFS. Entries at the copy buffer: reads served from it (R57), writes merged into it, answered POISONED or held (R58,
R59, R61, R69), and the skipped patrol read (R80, R112).
-/

namespace Sys2Proof.Machine

/-- An entry whose turn has come issues; in HALTED only a PATROL entry does (R67, R68). -/
theorem State.issueIfDue_eq (u : State) (k : Nat) (e : OpenEntry) (found : u.entryAt k = some e)
    (turn : e.state = .blocked .turn) (may : e.work = .patrol ∨ u.ctl.state ≠ .halted) :
    u.issueIfDue k = u.issueEntry k := by
  have due : u.slotDue k = true := by simpa [State.slotDue, found, OpenEntry.issueDue, turn] using may
  exact if_pos due

/-- A demand read of the copy buffer is served at its issue (R57, R68). -/
theorem State.issueEntry_bufferRead (u : State) (k : Nat) (e : OpenEntry) (p : PortId) (t : Tag)
    (found : u.entryAt k = some e) (work : e.work = .demandRead p t) (buffer : u.lookup e.line = .copyBuffer) :
    u.issueEntry k = u.serveRead k e p t := by
  simp only [State.issueEntry, found, work, buffer]

/-- A demand write whose place is the copy buffer (R58, R68). -/
theorem State.issueEntry_bufferWrite (u : State) (k : Nat) (e : OpenEntry) (p : PortId) (t : Tag) (mask : ByteMask)
    (data : LineData) (found : u.entryAt k = some e) (work : e.work = .demandWrite p t mask data)
    (buffer : u.lookup e.line = .copyBuffer) : u.issueEntry k = u.issueBufferWrite k e p t mask data := by
  simp only [State.issueEntry, found, work, buffer]

/-- A patrol read of a line in a copying state is skipped at its issue (R80, R112). -/
theorem State.issueEntry_patrolSkip (u : State) (k : Nat) (e : OpenEntry) (found : u.entryAt k = some e)
    (work : e.work = .patrol) (copying : u.lineCopying e.line = true) : u.issueEntry k = u.patrolSkip k := by
  simp only [State.issueEntry, found, work, copying, ↓reduceIte]

/-- The state after a demand entry at the poisoned copy buffer has been answered POISONED, with its record and its
counter (R57, R59). -/
def State.poisonAnswered (u : State) (line : Nat) (p : PortId) (t : Tag) (data : Option LineData) : State :=
  { (u.offer (poisonHitRecord p line (u.sourceLoc line))).count .poison with
    ports := u.ports.released p t
    responses := u.responses ++ [{ port := p, tag := t, status := .poisoned, data := data, mask := 0 }] }

/-- Answering POISONED, offering the record and counting it, in the model's order (R57, R59). -/
theorem State.poisonAnswered_eq (u : State) (line : Nat) (p : PortId) (t : Tag) (data : Option LineData) :
    ((u.answer { port := p, tag := t, status := .poisoned, data := data, mask := 0 }).offer
      (poisonHitRecord p line (u.sourceLoc line))).count .poison = u.poisonAnswered line p t data := by
  have answers : KeepsReports (fun v =>
      (v.setPorts (u.ports.released p t)).setResponses
        (u.responses ++ [{ port := p, tag := t, status := .poisoned, data := data, mask := 0 }])) :=
    fun _ _ _ _ => rfl
  exact congrArg (fun v : State => v.count .poison) (answers.offer u _)

/-- Answering POISONED leaves the Open-Line Table. -/
@[simp] theorem State.poisonAnswered_olt (u : State) (line : Nat) (p : PortId) (t : Tag) (data : Option LineData) :
    (u.poisonAnswered line p t data).olt = u.olt := by
  simp [State.poisonAnswered]

/-- A read of the buffer while it holds good data is answered OK with the buffer's data (R57). -/
theorem State.serveRead_good (u : State) (k : Nat) (e : OpenEntry) (p : PortId) (t : Tag)
    (good : u.copy.buffer.poison = false) :
    u.serveRead k e p t = State.removeEntry { u with
      ports := u.ports.released p t
      responses := u.responses ++
        [{ port := p, tag := t, status := .ok, data := some u.copy.buffer.data, mask := 0 }] } k := by
  rw [State.serveRead, good]
  rfl

/-- A read of the buffer while it holds poison is answered POISONED with zero data (R57). -/
theorem State.serveRead_poison (u : State) (k : Nat) (e : OpenEntry) (p : PortId) (t : Tag)
    (poison : u.copy.buffer.poison = true) :
    u.serveRead k e p t = (u.poisonAnswered e.line p t (some 0)).removeEntry k := by
  rw [← u.poisonAnswered_eq, State.serveRead, poison]
  rfl

/-- Under the write hold a write waits on the copy (R61, R69). -/
theorem State.issueBufferWrite_hold (u : State) (k : Nat) (e : OpenEntry) (p : PortId) (t : Tag) (mask : ByteMask)
    (data : LineData) (hold : u.copy.hold = true) :
    u.issueBufferWrite k e p t mask data = u.putOpen k { e with state := .blocked .copyHold } :=
  if_pos hold

/-- A partial write over poison is answered POISONED and writes nothing (R59). -/
theorem State.issueBufferWrite_poison (u : State) (k : Nat) (e : OpenEntry) (p : PortId) (t : Tag) (mask : ByteMask)
    (data : LineData) (free : u.copy.hold = false) (poison : u.copy.buffer.poison = true)
    (partialMask : mask ≠ BitVec.allOnes 64) :
    u.issueBufferWrite k e p t mask data = (u.poisonAnswered e.line p t none).removeEntry k := by
  rw [← u.poisonAnswered_eq, State.issueBufferWrite, free, poison, fullMask, decide_eq_false partialMask]
  rfl

/-- A write over good data, or a full write, is merged (R58). -/
theorem State.issueBufferWrite_merge (u : State) (k : Nat) (e : OpenEntry) (p : PortId) (t : Tag) (mask : ByteMask)
    (data : LineData) (free : u.copy.hold = false)
    (takes : u.copy.buffer.poison = false ∨ mask = BitVec.allOnes 64) :
    u.issueBufferWrite k e p t mask data = u.mergeWrite k e mask data := by
  have merges : (u.copy.buffer.poison && !fullMask mask) = false := by
    rcases takes with good | full <;> simp [fullMask, *]
  rw [State.issueBufferWrite, free, merges]
  rfl

/-- A merged write sets dirty and writes the merged line to the source (R58, R15). -/
theorem State.mergeWrite_eq (u : State) (k : Nat) (e : OpenEntry) (mask : ByteMask) (data : LineData) :
    let d := mergeBytes mask data u.copy.buffer.data
    u.mergeWrite k e mask data = { u with
      copy := { u.copy with
        buffer := { data := d, poison := false, valid := u.copy.buffer.valid }, dirty := true }
      aif := { u.aif with
        ops := u.aif.ops ++ [u.writeOp (u.sourceLoc e.line) e.line d (.engine k)]
        injection := u.injectionLeft e.line }
      olt := { order := u.olt.order, slots := u.olt.slots.set k (some
        { e with place := some .copyBuffer, state := .writing }) } } := by
  intro d
  simp only [State.mergeWrite, State.issueWrite_eq]
  rfl

/-- Settles O14: the entry issues, is served from the buffer's contents or skipped, and leaves the table. -/
theorem entryServedAtIssue : Obligations.EntryServedAtIssue := by
  intro s k e u found turn
  have leaves (v : State) (olt : v.olt = u.olt) : u.entryLeft (v.removeEntry k) k :=
    u.removeEntry_entryLeft v k e found (by simp [turn]) olt
  refine ⟨fun p t work running buffer => ?_, fun work copying => ?_⟩
  · have issues : exec (.entryIssue k) s = .next (u.serveRead k e p t) := congrArg _
      ((u.issueIfDue_eq k e found turn (.inr running)).trans (u.issueEntry_bufferRead k e p t found work buffer))
    refine ⟨fun good => ⟨_, issues, ?_, ?_⟩, fun poison => ⟨_, issues, ?_, ?_⟩⟩
    · rw [u.serveRead_good k e p t good]
      exact leaves _ rfl
    · rw [u.serveRead_good k e p t good]
      exact State.removeEntry_eq _ k
    · rw [u.serveRead_poison k e p t poison]
      exact leaves _ (by simp)
    · rw [u.serveRead_poison k e p t poison]
      exact State.removeEntry_eq _ k
  · have issues : exec (.entryIssue k) s = .next (u.patrolSkip k) := congrArg _
      ((u.issueIfDue_eq k e found turn (.inl work)).trans (u.issueEntry_patrolSkip k e found work copying))
    refine ⟨(u.removeEntry k).count .patrolSkipped, ?_, ?_, issues⟩
    · exact leaves u rfl
    · rw [u.removeEntry_eq k]
      rfl

/-- Settles O15: the write issues at the buffer, where the hold, poison under a partial mask and the merge exclude one
another. -/
theorem copyBufferTakesWrites : Obligations.CopyBufferTakesWrites := by
  intro s k e p t mask data u found turn work running buffer
  have leaves (v : State) (olt : v.olt = u.olt) : u.entryLeft (v.removeEntry k) k :=
    u.removeEntry_entryLeft v k e found (by simp [turn]) olt
  have issues : exec (.entryIssue k) s = .next (u.issueBufferWrite k e p t mask data) := congrArg _
    ((u.issueIfDue_eq k e found turn (.inr running)).trans
      (u.issueEntry_bufferWrite k e p t mask data found work buffer))
  refine ⟨fun hold => ?_, fun free poison part => ⟨_, issues, ?_, ?_⟩, fun free takes =>
    ⟨mergeBytes mask data u.copy.buffer.data, fun b inside => lineByte_mergeBytes mask data _ b inside, ?_⟩⟩
  · rw [issues, u.issueBufferWrite_hold k e p t mask data hold]
    rfl
  · rw [u.issueBufferWrite_poison k e p t mask data free poison part]
    exact leaves _ (by simp)
  · rw [u.issueBufferWrite_poison k e p t mask data free poison part]
    exact State.removeEntry_eq _ k
  · rw [issues, u.issueBufferWrite_merge k e p t mask data free takes, u.mergeWrite_eq k e mask data]

end Sys2Proof.Machine
end

section
/-!
PROOFS. The Copy Unit between its grant and its verify: the copy read fills the buffer (R45, R62), the target write
(R46), the verify read (R47), and the completions of items that have ended (R56).
-/

namespace Sys2Proof.Machine

/-- The Copy Unit's destination by the state of the line's entry (R46). -/
theorem State.copyDest_eq (u : State) (line : Nat) (e : RemapEntry) (found : u.entryOf line = some e) :
    u.copyDest line = match e.state.target? with
      | some t => .spare t
      | none => .home := by
  unfold State.copyDest
  rw [found]
  cases state : e.state <;> simp only [state] <;> rfl

/-- The target write of good data (R46). -/
theorem State.issueTarget_good (u : State) (i : RetireItem) (item : u.copy.item = some i)
    (good : u.copy.buffer.poison = false) : u.issueTarget = { u with
      aif := { u.aif with
        ops := u.aif.ops ++ [u.writeOp (u.copyDest i.line) i.line u.copy.buffer.data (.copyUnit u.copy.itemNo)]
        injection := u.injectionLeft i.line }
      copy := { u.copy with state := .writeTarget, dirty := false, expected := some .clean } } := by
  rw [State.issueTarget, item]
  dsimp only
  rw [good, State.issueWrite_eq]
  rfl

/-- The target write of a poisoned buffer is a poison write (R46). -/
theorem State.issueTarget_poison (u : State) (i : RetireItem) (item : u.copy.item = some i)
    (poison : u.copy.buffer.poison = true) : u.issueTarget = { u with
      aif := { u.aif with
        ops := u.aif.ops ++ [u.poisonOp (u.copyDest i.line) i.line (.copyUnit u.copy.itemNo)] }
      copy := { u.copy with state := .writeTarget, dirty := false, expected := some .poisoned } } := by
  rw [State.issueTarget, item]
  dsimp only
  rw [poison, State.issuePoison_eq]
  rfl

/-- The state `v` with a copy read completed into its buffer: the operation has left the array and the buffer is valid
(R11, R45). -/
def State.copyFilled (v u : State) (op : ArrayOp) (d : LineData) (poison : Bool) : State :=
  { v with
    aif := (u.finishOp op).aif, freeReads := (u.finishOp op).freeReads
    copy := { u.copy with buffer := { data := d, poison := poison, valid := true } } }

/-- A RAW copy read fills the buffer with the bytes as they stand (R45). -/
theorem State.copyReadDone_raw (u : State) (k : Nat) (first : Bool) (e : OpenEntry) (op : ArrayOp)
    (outstanding : u.entryOp k = some (e, op)) (work : e.work = .copyRead u.copy.itemNo) (reading : e.state = .reading)
    (busy : u.copy.state ≠ .idle) (raw : op.kind = .readLine false) :
    u.copyReadDone k first = (u.copyFilled u op (u.rawRead op.phys) false).afterCopyRead k first := by
  simp only [State.copyReadDone, outstanding, work, reading, raw, State.currentItem, busy, ne_eq, not_false_eq_true,
    and_self, decide_true, ↓reduceIte]
  rfl

/-- A decoded copy read fills the buffer by its outcome (R45). -/
theorem State.copyReadDone_decoded (u : State) (k : Nat) (first : Bool) (e : OpenEntry) (op : ArrayOp)
    (outstanding : u.entryOp k = some (e, op)) (work : e.work = .copyRead u.copy.itemNo) (reading : e.state = .reading)
    (busy : u.copy.state ≠ .idle) (decoded : op.kind = .readLine true) :
    u.copyReadDone k first =
      ((u.finishOp op).fillDecoded e.line e.loc (u.decodedRead op.phys)).afterCopyRead k first := by
  simp only [State.copyReadDone, outstanding, work, reading, decoded, State.currentItem, busy, ne_eq,
    not_false_eq_true, and_self, decide_true, ↓reduceIte]

/-- A CLEAN or CORRECTED copy read fills the buffer with good data (R45). -/
theorem State.fillDecoded_good (u : State) (op : ArrayOp) (line : Nat) (l : Loc) (r : LineRead)
    (good : r.outcome = .clean ∨ r.outcome = .corrected) :
    (u.finishOp op).fillDecoded line l r = u.copyFilled u op r.data false := by
  rcases good with outcome | outcome <;>
  · rw [State.fillDecoded, outcome]
    rfl

/-- A POISONED copy read fills the buffer with poison and makes no record (R45). -/
theorem State.fillDecoded_poisoned (u : State) (op : ArrayOp) (line : Nat) (l : Loc) (r : LineRead)
    (outcome : r.outcome = .poisoned) : (u.finishOp op).fillDecoded line l r = u.copyFilled u op r.data true := by
  rw [State.fillDecoded, outcome]
  rfl

/-- An UNCORRECTABLE copy read fills the buffer with poison, with its record and its counter (R45). -/
theorem State.fillDecoded_uncorrectable (u : State) (op : ArrayOp) (line : Nat) (l : Loc) (r : LineRead)
    (outcome : r.outcome = .uncorrectable) : (u.finishOp op).fillDecoded line l r =
      (u.reportUncorrectable .copy line l r.errors).copyFilled u op r.data true := by
  have fills : KeepsReports (fun v => v.copyFilled u op r.data true) := fun _ _ _ _ => rfl
  rw [State.fillDecoded, outcome]
  exact congrArg (fun v : State => v.count .uncorrectable) (fills.offer u _)

/-- The copy read of the current item, which completes into the state `w` before the target write issues (R45, R62). -/
theorem exec_copyReadComplete (s w : State) (k : Nat)
    (done : ∀ first, s.opened.copyReadDone k first = w.afterCopyRead k first) :
    exec (.copyReadComplete k false) s = .next (w.removeEntry k).issueTarget ∧
    exec (.copyReadComplete k true) s = .next (w.removeEntry k).settleIssues.issueTarget :=
  ⟨congrArg _ (done false), congrArg _ (done true)⟩

/-- Settles O25: the buffer by the read's outcome, and the two orders of the command; the removal writes the Open-Line
Table alone. -/
theorem copyReadFillsTheBuffer : Obligations.CopyReadFillsTheBuffer := by
  refine ⟨fun u line e found => ?_, ?_,
    fun u i item => ⟨u.issueTarget_good i item, u.issueTarget_poison i item⟩⟩
  · rw [u.copyDest_eq line e found]
    exact ⟨fun t state => by rw [state]; rfl, fun c t m state => by rw [state]; rfl,
      fun c m state => by rw [state]; rfl⟩
  · intro s k e op l i u outstanding work reading place busy item r fills
    have loc : e.loc = l := by rw [OpenEntry.loc, place]
    obtain ⟨found, -⟩ := u.entryOp_spec k e op outstanding
    have rows (w : State) (done : ∀ first, u.copyReadDone k first = w.afterCopyRead k first) :=
      exec_copyReadComplete s w k done
    clear_value u
    have fill (v : State) (d : LineData) (poison : Bool) (olt : v.olt = u.olt)
        (done : ∀ first, u.copyReadDone k first = (v.copyFilled u op d poison).afterCopyRead k first) :
        fills v d poison := by
      obtain ⟨after, before⟩ := rows _ done
      refine ⟨_, after, before, u.removeEntry_entryLeft _ k e found (by simp [reading]) olt, ?_, ?_⟩
      · rw [State.removeEntry_eq]
        exact u.opDone_of_eq (u.finishOp op) _ op [] _ (u.finishOp_opDone op) rfl rfl
      · rw [State.removeEntry_eq]
        rfl
    refine ⟨fun raw => fill u _ false rfl fun first =>
      u.copyReadDone_raw k first e op outstanding work reading busy raw, fun decoded => ?_⟩
    have done (first : Bool) := u.copyReadDone_decoded k first e op outstanding work reading busy decoded
    rw [loc] at done
    refine ⟨fun clean => fill u _ false rfl fun first => ?_, fun corrected => fill u _ false rfl fun first => ?_,
      fun poisoned => fill u _ true rfl fun first => ?_,
      fun uncorrectable => fill (u.reportUncorrectable .copy e.line l r.errors) _ true (by simp) fun first => ?_⟩
    · rw [done, u.fillDecoded_good op _ _ _ (.inl clean)]
    · rw [done, u.fillDecoded_good op _ _ _ (.inr corrected)]
    · rw [done, u.fillDecoded_poisoned op _ _ _ poisoned]
    · rw [done, u.fillDecoded_uncorrectable op _ _ _ uncorrectable]

/-- The target write's completion is followed by the verify read of the same destination (R47). -/
theorem State.targetWriteDone_eq (u : State) (i : RetireItem) (op : ArrayOp) (state : u.copy.state = .writeTarget)
    (item : u.copy.item = some i) (outstanding : u.copyOp false = some op) :
    u.targetWriteDone = { u with
      aif := ((u.finishOp op).issueRead (u.copyDest i.line) i.line true (.copyUnit u.copy.itemNo)).aif
      freeReads := (u.finishOp op).freeReads
      copy := { u.copy with state := .verify } } := by
  have item' : (u.finishOp op).copy.item = some i := item
  simp only [State.targetWriteDone, state, outstanding, State.issueVerify, item']
  rfl

/-- An item that has ended is not the current one (R56). -/
theorem State.currentItem_ended (u : State) (n : BitVec 16) (ended : u.copy.state = .idle ∨ n ≠ u.copy.itemNo) :
    u.currentItem n = false := by
  rw [State.currentItem, decide_eq_false_iff_not]
  tauto

/-- The copy read of an ended item is discarded, but for the entry it removes (R56, R81). -/
theorem State.lateEntry_eq (u : State) (k : Nat) (e : OpenEntry) (op : ArrayOp) (n : BitVec 16)
    (outstanding : u.entryOp k = some (e, op)) (work : e.work = .copyRead n) (reading : e.state = .reading)
    (ended : u.currentItem n = false) : u.lateEntry k = (u.finishOp op).removeEntry k := by
  simp only [State.lateEntry, outstanding, work, reading, ended]
  rfl

/-- The target write or verify read of an ended item is discarded (R56). -/
theorem State.lateArray_eq (u : State) (phys : Nat) (op : ArrayOp) (n : BitVec 16) (head : u.headOp phys = some op)
    (issuer : op.issuer = .copyUnit n) (ended : u.currentItem n = false) : u.lateArray phys = u.finishOp op := by
  simp only [State.lateArray, head, issuer, ended]
  rfl

/-- Settles O26: each completion finishes its operation; the target write's issues the verify read, a late one issues
nothing. -/
theorem targetWriteAndLateCompletions : Obligations.TargetWriteAndLateCompletions := by
  refine ⟨?_, ?_, ?_⟩
  · intro s i op u state item outstanding
    have done : exec .targetWriteComplete s = .next _ :=
      congrArg Host.Outcome.next (u.targetWriteDone_eq i op state item outstanding)
    clear_value u
    exact ⟨_, done, ⟨rfl, rfl⟩, rfl⟩
  · intro s k e op n u outstanding work reading ended
    have done : exec (.lateCompletion (.entry k)) s = .next ((u.finishOp op).removeEntry k) := congrArg
      Host.Outcome.next (u.lateEntry_eq k e op n outstanding work reading (u.currentItem_ended n ended))
    clear_value u
    obtain ⟨found, -⟩ := u.entryOp_spec k e op outstanding
    refine ⟨_, done, u.removeEntry_entryLeft _ k e found (by simp [reading]) rfl, ?_, ?_⟩
    · rw [State.removeEntry_eq]
      exact u.finishOp_opDone op
    · rw [State.removeEntry_eq]
      rfl
  · intro s phys op n u head issuer ended
    have done : exec (.lateCompletion (.array phys)) s = .next (u.finishOp op) := congrArg
      Host.Outcome.next (u.lateArray_eq phys op n head issuer (u.currentItem_ended n ended))
    clear_value u
    exact ⟨_, done, u.finishOp_opDone op, rfl⟩

end Sys2Proof.Machine
end

section
/-!
PROOFS. The end of a verify read (R47 to R53): a good one commits or rewrites, a failed one retries on the next FREE
spare or aborts. An item that ends changes the line's entry, the spares, the Copy Unit and the hold, whatever was
offered, counted and dropped on the way.
-/

namespace Sys2Proof.Machine

/-! ## The outcome of a verify read (R48) -/

/-- The verify is good: its outcome is the expected one (R46, R48). -/
theorem expectedIs_iff (x : Option Expected) (o : LineOutcome) :
    expectedIs x o = true ↔ x = some .clean ∧ o = .clean ∨ x = some .poisoned ∧ o = .poisoned := by
  unfold expectedIs
  split <;> simp_all

/-- The current item's verify read completes with its outcome (R48). -/
theorem State.verifyDone_eq (u : State) (i : RetireItem) (op : ArrayOp) (state : u.copy.state = .verify)
    (item : u.copy.item = some i) (outstanding : u.copyOp true = some op) :
    u.verifyDone = (u.finishOp op).verifyOutcome i (u.decodedRead op.phys).outcome := by
  simp only [State.verifyDone, state, item, outstanding]

/-- A verify read with the expected outcome (R48). -/
theorem exec_verifyGood (s : State) (i : RetireItem) (op : ArrayOp) (state : s.opened.copy.state = .verify)
    (item : s.opened.copy.item = some i) (outstanding : s.opened.copyOp true = some op)
    (good : expectedIs s.opened.copy.expected (s.opened.decodedRead op.phys).outcome = true) :
    exec .verifyComplete s = .next ((s.opened.finishOp op).verifyGood i) :=
  congrArg _ ((s.opened.verifyDone_eq i op state item outstanding).trans (if_pos good))

/-- A verify read with another outcome (R49, R50). -/
theorem exec_verifyFailed (s : State) (i : RetireItem) (op : ArrayOp) (state : s.opened.copy.state = .verify)
    (item : s.opened.copy.item = some i) (outstanding : s.opened.copyOp true = some op)
    (failed : ¬ expectedIs s.opened.copy.expected (s.opened.decodedRead op.phys).outcome = true) :
    exec .verifyComplete s = .next ((s.opened.finishOp op).verifyFailed i) :=
  congrArg _ ((s.opened.verifyDone_eq i op state item outstanding).trans (if_neg failed))

/-! ## Rewrites (R48) -/

/-- Below four rewrites a dirty verify counts one more (R48). -/
theorem State.verifyGood_rewrites (u : State) (i : RetireItem) (n : Nat) (dirty : u.copy.dirty = true)
    (rewrites : u.copy.rewrites = some n) (few : n < 4) :
    u.verifyGood i = (u.setCopy { u.copy with rewrites := some (n + 1) }).issueTarget := by
  simp only [State.verifyGood, dirty, rewrites, Option.getD_some, few, ↓reduceIte]

/-- After four rewrites a dirty verify takes the write hold (R48). -/
theorem State.verifyGood_holds (u : State) (i : RetireItem) (dirty : u.copy.dirty = true)
    (rewrites : u.copy.rewrites = some 4) :
    u.verifyGood i = (u.setCopy { u.copy with hold := true }).issueTarget := by
  simp [State.verifyGood, dirty, rewrites]

/-- Settles O28: the verify read is good and dirty is set, so the count of rewrites decides. -/
theorem verifyRewritesWhileDirty : Obligations.VerifyRewritesWhileDirty := by
  intro s i op n u state item outstanding dirty good rewrites
  have done := exec_verifyGood s i op state item outstanding ((expectedIs_iff _ _).2 good)
  change exec .verifyComplete s = .next ((u.finishOp op).verifyGood i) at done
  clear_value u
  refine ⟨fun few => ?_, fun four => ?_⟩
  · rw [State.verifyGood_rewrites (u.finishOp op) i n dirty rewrites few] at done
    exact ⟨_, done, u.opDone_of_eq _ _ op [] _ (u.finishOp_opDone op) rfl rfl, rfl⟩
  · rw [State.verifyGood_holds (u.finishOp op) i dirty (four ▸ rewrites)] at done
    exact ⟨_, done, u.opDone_of_eq _ _ op [] _ (u.finishOp_opDone op) rfl rfl, rfl⟩

/-! ## The end of an item (R51 to R53) -/

/-- The state `v` with the operation completed in `u`, and the entry of a line and the spares replaced (R11, R23). -/
def State.remapped (v u : State) (op : ArrayOp) (line : Nat) (spares : List SpareState) (e : Option RemapEntry) :
    State :=
  { v with
    aif := (u.finishOp op).aif, freeReads := (u.finishOp op).freeReads
    lrt := { slots := replaceEntry u.lrt.slots line e, gen := u.lrt.gen + 1 }
    pool := { spares := spares, lowLevel := u.pool.lowLevel } }

/-- Replacing entry and spares commutes with an offer. -/
theorem State.remapped_offer (v u : State) (op : ArrayOp) (line : Nat) (spares : List SpareState)
    (e : Option RemapEntry) (r : Record) :
    (v.remapped u op line spares e).offer r = (v.offer r).remapped u op line spares e := by
  have remaps : KeepsReports (fun v => v.remapped u op line spares e) := fun _ _ _ _ => rfl
  exact remaps.offer v r

/-- The same, and the Copy Unit is IDLE with the entry that waited on the hold free to issue (R53). -/
def State.itemEnded (v u : State) (op : ArrayOp) (line : Nat) (spares : List SpareState) (e : Option RemapEntry) :
    State :=
  { v.remapped u op line spares e with
    olt := { order := u.olt.order, slots := u.olt.slots.map releaseHold }, copy := u.copy.ended }

/-- The common ending of an item (R53): its command gets the result. -/
theorem State.endItem_remapped (v u : State) (op : ArrayOp) (i : RetireItem) (spares : List SpareState)
    (e : Option RemapEntry) (r : CmdResult) (olt : v.olt = u.olt) (copy : v.copy = u.copy) :
    (v.remapped u op i.line spares e).endItem i r =
      if i.command then (v.itemEnded u op i.line spares e).done r else v.itemEnded u op i.line spares e := by
  unfold State.itemEnded
  rw [← olt, ← copy]
  rfl

/-! ## Commits (R51, R52) -/

/-- A move of a line without an entry makes it ACTIVE on its target (R33). -/
theorem State.commitEntry_copying (u : State) (op : ArrayOp) (e : RemapEntry) (line t : Nat)
    (found : u.entryOf line = some e) (state : e.state = .copying t) :
    (u.finishOp op).commitEntry line =
      u.remapped u op line u.pool.spares (some { e with state := .active t 1 }) := by
  have found' : (u.finishOp op).entryOf line = some e := found
  simp only [State.commitEntry, found', state]
  rfl

/-- A move of an ACTIVE line frees the old spare and counts the move, saturating (R33). -/
theorem State.commitEntry_moving (u : State) (op : ArrayOp) (e : RemapEntry) (line c t m : Nat)
    (found : u.entryOf line = some e) (state : e.state = .moving c t m) :
    (u.finishOp op).commitEntry line =
      u.remapped u op line (u.pool.spares.set c .free) (some { e with state := .active t (min (m + 1) 255) }) := by
  have found' : (u.finishOp op).entryOf line = some e := found
  simp only [State.commitEntry, found', state]
  rfl

/-- A release frees the spare and removes the entry (R34). -/
theorem State.commitEntry_releasing (u : State) (op : ArrayOp) (e : RemapEntry) (line c m : Nat)
    (found : u.entryOf line = some e) (state : e.state = .releasing c m) :
    (u.finishOp op).commitEntry line = u.remapped u op line (u.pool.spares.set c .free) none := by
  have found' : (u.finishOp op).entryOf line = some e := found
  simp only [State.commitEntry, found', state]
  rfl

/-- The record of a move that has committed (R51). -/
def retiredRecord (line t : Nat) (poisoned : Bool) : Record :=
  { copyRecord .retired line (.spare t) with detail := some (.poisonedFlag poisoned) }

/-- What a committed move reports, and the suspect of its line dropped (R51). -/
def State.moveReported (u : State) (line t : Nat) : State :=
  { u.offer (retiredRecord line t u.copy.buffer.poison) with
    suspects := { u.suspects with entries := u.suspects.entries.filter (fun x => x.line ≠ line) } }

/-- A move commits (R51, R53). -/
theorem State.commit_move (u : State) (op : ArrayOp) (i : RetireItem) (t : Nat) (spares : List SpareState)
    (e : Option RemapEntry) (action : i.action = .move) (dest : u.copyDest i.line = .spare t)
    (entry : (u.finishOp op).commitEntry i.line = u.remapped u op i.line spares e) :
    let w := ((u.moveReported i.line t).count .retired).itemEnded u op i.line spares e
    (u.finishOp op).commit i = if i.command then w.done .done else w := by
  have dest' : (u.finishOp op).copyDest i.line = .spare t := dest
  have dropped : ((u.offer (retiredRecord i.line t u.copy.buffer.poison)).remapped u op i.line spares e).removeSuspect
      i.line = (u.moveReported i.line t).remapped u op i.line spares e := by
    have same : (u.offer (retiredRecord i.line t u.copy.buffer.poison)).suspects = u.suspects := by simp
    unfold State.moveReported
    rw [← same]
    rfl
  simp only [State.commit, action, dest', entry]
  rw [← State.endItem_remapped _ u op i spares e .done (by simp [State.moveReported]) (by simp [State.moveReported]),
    State.remapped_offer]
  exact congrArg (fun v : State => (v.count .retired).endItem i .done) dropped

/-- A release commits (R52, R53). -/
theorem State.commit_release (u : State) (op : ArrayOp) (i : RetireItem) (spares : List SpareState)
    (e : Option RemapEntry) (action : i.action = .release)
    (entry : (u.finishOp op).commitEntry i.line = u.remapped u op i.line spares e) :
    let w := ((u.offer (copyRecord .released i.line .home)).count .retired).itemEnded u op i.line spares e
    (u.finishOp op).commit i = if i.command then w.done .done else w := by
  simp only [State.commit, action, entry]
  rw [← State.endItem_remapped _ u op i spares e .done (by simp) (by simp), State.remapped_offer]
  rfl

/-- With dirty clear a good verify commits (R48). -/
theorem State.verifyGood_commits (u : State) (i : RetireItem) (clean : u.copy.dirty = false) :
    u.verifyGood i = u.commit i :=
  if_neg (by simp [clean])

/-- Ending an item leaves the array with the operation completed. -/
theorem State.itemEnded_opDone (v u : State) (op : ArrayOp) (line : Nat) (spares : List SpareState)
    (e : Option RemapEntry) : u.opDone (v.itemEnded u op line spares e) op [] u.aif.injection :=
  u.opDone_of_eq _ _ op [] _ (u.finishOp_opDone op) rfl rfl

/-- Settles O27: a good verify with dirty clear commits, by the item's action and the state of the line's entry. -/
theorem verifyCommits : Obligations.VerifyCommits := by
  refine ⟨fun e => ⟨rfl, fun held => by simp [releaseHold, held], fun free => by simp [releaseHold, free]⟩, ?_⟩
  intro s i op e u state item outstanding clean good found ends moved
  have done := exec_verifyGood s i op state item outstanding ((expectedIs_iff _ _).2 good)
  change exec .verifyComplete s = .next ((u.finishOp op).verifyGood i) at done
  clear_value u
  rw [State.verifyGood_commits (u.finishOp op) i clean] at done
  have dest := u.copyDest_eq i.line e found
  refine ⟨fun t action copying => ?_, fun c t m action moving => ?_, fun c m action releasing => ?_⟩
  · rw [copying] at dest
    rw [u.commit_move op i t _ _ action dest (u.commitEntry_copying op e i.line t found copying)] at done
    exact ⟨_, done, State.itemEnded_opDone _ u op i.line _ _, rfl⟩
  · rw [moving] at dest
    rw [u.commit_move op i t _ _ action dest (u.commitEntry_moving op e i.line c t m found moving)] at done
    exact ⟨_, done, State.itemEnded_opDone _ u op i.line _ _, rfl⟩
  · rw [u.commit_release op i _ _ action (u.commitEntry_releasing op e i.line c m found releasing)] at done
    exact ⟨_, done, State.itemEnded_opDone _ u op i.line _ _, rfl⟩

end Sys2Proof.Machine
end

section
/-!
PROOFS. A failed verify (R49, R50, R53): the target is condemned and the lowest FREE spare takes its place, or the move
is aborted; a release is aborted.
-/

namespace Sys2Proof.Machine

/-- An abort looks at the remap table and writes it and the pool (R35). -/
theorem State.abortEntry_keepsReports (line : Nat) (x : SpareState) : KeepsReports (fun v => v.abortEntry line x) := by
  intro s q i n
  have same : (s.withReports q i n).entryOf line = s.entryOf line := rfl
  simp only [State.abortEntry, same]
  cases s.entryOf line with
  | none => rfl
  | some e =>
    obtain ⟨_, state, _⟩ := e
    cases state <;> rfl

/-- The abort of a completed verify read's item: the entry returns, and a target gets the state x (R35). -/
theorem State.abortEntry_remapped (u : State) (op : ArrayOp) (line : Nat) (e : RemapEntry) (x : SpareState)
    (found : u.entryOf line = some e) (copying : e.state.copying? = true) :
    (u.finishOp op).abortEntry line x = u.remapped u op line (match e.state.target? with
      | some t => u.pool.spares.set t x
      | none => u.pool.spares) e.returned := by
  rw [(u.finishOp op).abortEntry_of_copying line e x found copying]
  cases e.state.target? <;> rfl

/-- The target of the line's move by its entry. -/
theorem State.targetOf_eq (u : State) (line : Nat) (e : RemapEntry) (found : u.entryOf line = some e) :
    u.targetOf line = e.state.target? := by
  rw [State.targetOf, found]

/-- A state with a target is a copying one. -/
theorem RemapState.copying_of_target (st : RemapState) (t : Nat) (target : st.target? = some t) :
    st.copying? = true := by
  cases st with
  | active c m => cases target
  | copying _ | moving _ _ _ | releasing _ _ => rfl

/-- The move's state with another target (R32). -/
def RemapState.withTarget (st : RemapState) (f : Nat) : RemapState :=
  match st with
  | .copying _ => .copying f
  | .moving c _ m => .moving c f m
  | .active c m => .active c m
  | .releasing c m => .releasing c m

/-- The failed target becomes BAD, and the new one is taken and named by the entry (R32). -/
theorem State.replaceTarget_eq (v : State) (line t f : Nat) (e : RemapEntry) (found : v.entryOf line = some e)
    (target : e.state.target? = some t) :
    v.replaceTarget line t f =
      ((v.setSpare t .bad).takeSpare f .held).putEntry line (some { e with state := e.state.withTarget f }) := by
  simp only [State.replaceTarget, found]
  obtain ⟨_, state, _⟩ := e
  cases state with
  | copying _ | moving _ _ _ => cases target; rfl
  | active _ _ | releasing _ _ => cases target

/-- The state with the failed target BAD, the new one HELD and named by the entry, and the attempt counted (R32,
R49). -/
def State.retargeted (v : State) (line t f : Nat) (e : RemapEntry) (n : Nat) : State :=
  { v with
    lrt := { slots := replaceEntry v.lrt.slots line (some { e with state := e.state.withTarget f })
             gen := v.lrt.gen + 1 }
    pool := { v.pool with spares := (v.pool.spares.set t .bad).set f .held }
    copy := { v.copy with attempts := some n } }

/-- Replacing a target and counting the attempt, with the crossing test last (R28, R32, R49). -/
theorem State.replaceTarget_counted (v : State) (line t f n : Nat) (e : RemapEntry) (found : v.entryOf line = some e)
    (target : e.state.target? = some t) :
    (v.replaceTarget line t f).setCopy { (v.replaceTarget line t f).copy with attempts := some n } =
      (v.retargeted line t f e n).noteCrossing
        (({ v.pool with spares := v.pool.spares.set t .bad } : SparePool).count .free) := by
  have keeps : KeepsReports (fun z => (z.putEntry line (some { e with state := e.state.withTarget f })).setCopy
      { z.copy with attempts := some n }) := fun _ _ _ _ => rfl
  rw [v.replaceTarget_eq line t f e found target]
  exact (keeps.noteCrossing ((v.setSpare t .bad).setSpare f .held) _ rfl).symm

/-- A move's verify failure condemns its target before anything else (R49). -/
theorem State.verifyFailed_move (u : State) (op : ArrayOp) (i : RetireItem) (e : RemapEntry) (t : Nat)
    (found : u.entryOf i.line = some e) (target : e.state.target? = some t) :
    (u.finishOp op).verifyFailed i = (u.finishOp op).moveVerifyFailed i t := by
  have target' : (u.finishOp op).targetOf i.line = some t := (u.targetOf_eq i.line e found).trans target
  rw [State.verifyFailed, target']

/-- A completion commutes with an offer. -/
theorem State.finishOp_offer (u : State) (op : ArrayOp) (r : Record) :
    (u.finishOp op).offer r = (u.offer r).finishOp op := by
  have finishes : KeepsReports (fun v => v.finishOp op) := fun _ _ _ _ => rfl
  exact finishes.offer u r

/-- After a completion an offer leaves the remap table, the spares and the Copy Unit. -/
theorem State.finishOp_offer_rest (u : State) (op : ArrayOp) (r : Record) (line : Nat) :
    ((u.finishOp op).offer r).entryOf line = u.entryOf line ∧ ((u.finishOp op).offer r).pool = u.pool ∧
    ((u.finishOp op).offer r).copy = u.copy ∧ ((u.finishOp op).offer r).sourceLoc line = u.sourceLoc line := by
  simp [State.sourceLoc, State.entryOf]

/-- Below the third attempt the lowest FREE spare becomes the target and is written (R32, R49). -/
theorem State.verifyFailed_retries (u : State) (op : ArrayOp) (i : RetireItem) (e : RemapEntry) (t f n : Nat)
    (found : u.entryOf i.line = some e) (target : e.state.target? = some t) (attempts : u.copy.attempts = some n)
    (few : n < 3) (free : u.pool.lowestFree = some f) :
    (u.finishOp op).verifyFailed i =
      ((((u.finishOp op).offer (spareBadRecord i.line t)).retargeted i.line t f e (n + 1)).noteCrossing
        (({ u.pool with spares := u.pool.spares.set t .bad } : SparePool).count .free)).issueTarget := by
  obtain ⟨entry, pool, copy, -⟩ := u.finishOp_offer_rest op (spareBadRecord i.line t) i.line
  rw [u.verifyFailed_move op i e t found target, ← pool,
    ← State.replaceTarget_counted _ _ _ _ _ _ (entry.trans found) target]
  simp only [State.moveVerifyFailed, copy, attempts, Option.getD_some, few, ↓reduceIte, pool, free]

/-- A move is aborted after its target has been condemned, with one more record (R35, R49, R53). -/
theorem State.condemned_aborts (u : State) (op : ArrayOp) (i : RetireItem) (e : RemapEntry) (t : Nat) (r : Record)
    (res : CmdResult) (found : u.entryOf i.line = some e) (target : e.state.target? = some t) :
    let v := ((u.finishOp op).offer (spareBadRecord i.line t)).abortEntry i.line .bad
    let w := (((u.offer (spareBadRecord i.line t)).offer r).count .retireFailed).itemEnded u op
      i.line (u.pool.spares.set t .bad) e.returned
    ((v.offer r).count .retireFailed).endItem i res = if i.command then w.done res else w := by
  have aborted := u.abortEntry_remapped op i.line e .bad found (e.state.copying_of_target t target)
  rw [target] at aborted
  have condemned : ((u.finishOp op).offer (spareBadRecord i.line t)).abortEntry i.line .bad =
      (u.offer (spareBadRecord i.line t)).remapped u op i.line (u.pool.spares.set t .bad) e.returned := by
    rw [← (State.abortEntry_keepsReports i.line .bad).offer, aborted, State.remapped_offer]
  intro v w
  rw [← State.endItem_remapped _ u op i _ _ res (by simp) (by simp), show v = _ from condemned, State.remapped_offer]
  rfl

/-- Below the third attempt without a FREE spare the move is aborted (R35, R49, R53). -/
theorem State.verifyFailed_noSpare (u : State) (op : ArrayOp) (i : RetireItem) (e : RemapEntry) (t n : Nat)
    (found : u.entryOf i.line = some e) (target : e.state.target? = some t) (attempts : u.copy.attempts = some n)
    (few : n < 3) (free : u.pool.lowestFree = none) :
    let w := (((u.offer (spareBadRecord i.line t)).offer (exhaustedRecord i.line)).count .retireFailed).itemEnded u op
      i.line (u.pool.spares.set t .bad) e.returned
    (u.finishOp op).verifyFailed i = if i.command then w.done .noSpare else w := by
  obtain ⟨-, pool, copy, -⟩ := u.finishOp_offer_rest op (spareBadRecord i.line t) i.line
  rw [u.verifyFailed_move op i e t found target]
  simp only [State.moveVerifyFailed, copy, attempts, Option.getD_some, few, ↓reduceIte, pool, free]
  exact u.condemned_aborts op i e t _ .noSpare found target

/-- At the third attempt the move is aborted (R35, R49, R53). -/
theorem State.verifyFailed_thirdAttempt (u : State) (op : ArrayOp) (i : RetireItem) (e : RemapEntry) (t : Nat)
    (found : u.entryOf i.line = some e) (target : e.state.target? = some t) (attempts : u.copy.attempts = some 3) :
    let w := (((u.offer (spareBadRecord i.line t)).offer
      (copyRecord .retireFailed i.line (u.sourceLoc i.line))).count .retireFailed).itemEnded u op
      i.line (u.pool.spares.set t .bad) e.returned
    (u.finishOp op).verifyFailed i = if i.command then w.done .failed else w := by
  obtain ⟨-, -, copy, stays⟩ := u.finishOp_offer_rest op (spareBadRecord i.line t) i.line
  rw [u.verifyFailed_move op i e t found target]
  simp only [State.moveVerifyFailed, copy, attempts, Option.getD_some, Nat.lt_irrefl, ↓reduceIte, stays]
  exact u.condemned_aborts op i e t _ .failed found target

/-- A release's verify failure aborts it (R35, R50, R53). -/
theorem State.verifyFailed_release (u : State) (op : ArrayOp) (i : RetireItem) (e : RemapEntry)
    (found : u.entryOf i.line = some e) (target : e.state.target? = none) (copying : e.state.copying? = true) :
    let w := ((u.offer (copyRecord .releaseFailed i.line (u.sourceLoc i.line))).count .retireFailed).itemEnded u op
      i.line u.pool.spares e.returned
    (u.finishOp op).verifyFailed i = if i.command then w.done .failed else w := by
  have target' : (u.finishOp op).targetOf i.line = none := (u.targetOf_eq i.line e found).trans target
  have aborted := u.abortEntry_remapped op i.line e .free found copying
  have stays : (u.finishOp op).sourceLoc i.line = u.sourceLoc i.line := rfl
  rw [target] at aborted
  simp only [State.verifyFailed, target', State.releaseVerifyFailed, stays, aborted]
  rw [State.remapped_offer, ← State.endItem_remapped _ u op i _ _ .failed (by simp) (by simp)]
  rfl

/-- The state of a retried move before the crossing test, with the condemned spare's record on top (R32, R49). -/
theorem State.retargeted_eq (u : State) (op : ArrayOp) (r : Record) (line t f n : Nat) (e : RemapEntry) :
    let w := ((u.finishOp op).offer r).retargeted line t f e n
    w = { u.offer r with
      aif := (u.finishOp op).aif, freeReads := (u.finishOp op).freeReads
      lrt := { slots := replaceEntry u.lrt.slots line (some { e with state := e.state.withTarget f })
               gen := u.lrt.gen + 1 }
      pool := { spares := (u.pool.spares.set t .bad).set f .held, lowLevel := u.pool.lowLevel }
      copy := { u.copy with attempts := some n } } := by
  rw [u.finishOp_offer op r]
  apply State.eq_of_fields <;> simp [State.retargeted, State.finishOp]

/-- Settles O29: a failed verify condemns a move's target and retries or aborts by the attempts and the FREE spares, and
aborts a release; the entry returns to what it was. -/
theorem verifyFailureRetriesOrAborts : Obligations.VerifyFailureRetriesOrAborts := by
  intro s i op e n u state item outstanding failing found attempts bad retried aborted exhausted failed
  have done := exec_verifyFailed s i op state item outstanding (fun good => failing ((expectedIs_iff _ _).1 good))
  change exec .verifyComplete s = .next ((u.finishOp op).verifyFailed i) at done
  clear_value u
  have retries (t f : Nat) (st : RemapState) (target : e.state.target? = some t) (named : e.state.withTarget f = st)
      (few : n < 3) (free : u.pool.lowestFree = some f) : retried t f st := by
    subst named
    rw [u.verifyFailed_retries op i e t f n found target attempts few free, State.retargeted_eq] at done
    exact ⟨_, done, u.opDone_of_eq _ _ op [] _ (u.finishOp_opDone op) rfl rfl, rfl⟩
  have aborts (t : Nat) (l : Loc) (back : Option RemapEntry) (target : e.state.target? = some t)
      (stays : u.sourceLoc i.line = l) (returned : e.returned = back) :
      (n < 3 → u.pool.lowestFree = none →
        aborted (exhausted (bad t)) (u.pool.spares.set t .bad) back .noSpare) ∧
      (n = 3 → aborted (failed (bad t) .retireFailed l) (u.pool.spares.set t .bad) back .failed) := by
    subst stays returned
    refine ⟨fun few free => ?_, fun third => ?_⟩
    · rw [u.verifyFailed_noSpare op i e t n found target attempts few free] at done
      exact ⟨_, done, State.itemEnded_opDone _ u op i.line _ _, rfl⟩
    · rw [u.verifyFailed_thirdAttempt op i e t found target (third ▸ attempts)] at done
      exact ⟨_, done, State.itemEnded_opDone _ u op i.line _ _, rfl⟩
  refine ⟨fun t copying => ⟨fun f => ?_, ?_⟩, fun c t m moving => ⟨fun f => ?_, ?_⟩, fun c m releasing => ?_⟩
  · exact retries t f _ (by rw [copying]; rfl) (by rw [copying]; rfl)
  · exact aborts t .home none (by rw [copying]; rfl) (by simp [State.sourceLoc, found, copying])
      (by simp [RemapEntry.returned, copying])
  · exact retries t f _ (by rw [moving]; rfl) (by rw [moving]; rfl)
  · exact aborts t (.spare c) (some { e with state := .active c m }) (by rw [moving]; rfl)
      (by simp [State.sourceLoc, found, moving]) (by simp [RemapEntry.returned, moving])
  · have stays : u.sourceLoc i.line = .spare c := by simp [State.sourceLoc, found, releasing]
    have returned : e.returned = some { e with state := .active c m } := by simp [RemapEntry.returned, releasing]
    rw [u.verifyFailed_release op i e found (by rw [releasing]; rfl) (by rw [releasing]; rfl), stays, returned] at done
    exact ⟨_, done, State.itemEnded_opDone _ u op i.line _ _, rfl⟩

end Sys2Proof.Machine
end

section
/-!
PROOFS. The start of an item (R41 to R43) with its allocation (R26, R30), its release (R31) and its endings, the
crossing test (R28) and the slots of the remap table (R18).
-/

namespace Sys2Proof.Machine

/-! ## The slots of the remap table (R18) -/

/-- A new entry takes the lowest empty slot (R18). -/
theorem fillLowest_eq_set (slots : List (Option RemapEntry)) (j : Nat) (e : RemapEntry)
    (empty : slots[j]? = some none) (lowest : ∀ i < j, slots[i]? ≠ some none) :
    fillLowest slots e = slots.set j (some e) := by
  induction slots generalizing j with
  | nil => cases empty
  | cons x xs ih =>
    cases j with
    | zero =>
      obtain rfl : x = none := by simpa using empty
      rfl
    | succ j =>
      cases x with
      | none => exact absurd rfl (lowest 0 j.succ_pos)
      | some x =>
        have later := ih j (by simpa using empty) fun i below => by simpa using lowest (i + 1) (by omega)
        simp only [fillLowest, List.set_cons_succ, later]

/-- A changed or removed entry keeps its slot (R18). -/
theorem replaceEntry_eq_set (slots : List (Option RemapEntry)) (j : Nat) (x : RemapEntry) (new : Option RemapEntry)
    (found : slots[j]? = some (some x)) (first : ∀ i < j, ∀ y, slots[i]? = some (some y) → y.line ≠ x.line) :
    replaceEntry slots x.line new = slots.set j new := by
  induction slots generalizing j with
  | nil => cases found
  | cons y ys ih =>
    cases j with
    | zero =>
      obtain rfl : y = some x := by simpa using found
      exact if_pos rfl
    | succ j =>
      have later := ih j (by simpa using found) fun i below z there =>
        first (i + 1) (by omega) z (by simpa using there)
      cases y with
      | none => simp only [replaceEntry, List.set_cons_succ, later]
      | some y =>
        have other : y.line ≠ x.line := first 0 j.succ_pos y rfl
        simp only [replaceEntry, other, ↓reduceIte, List.set_cons_succ, later]

/-! ## The item and its beginning (R41 to R43) -/

/-- The head item has left the queue and has its number (R40, R41). -/
def State.taken (u : State) (rest : List RetireItem) : State :=
  { u with rtq := rest, copy := { u.copy with itemNo := u.copy.itemNo + 1 } }

/-- An IDLE Copy Unit takes the head item in RUNNING, and the re-offers follow (R41, R96; log entry 19). -/
theorem State.startIfDue_eq (u : State) (i : RetireItem) (rest : List RetireItem) (idle : u.copy.state = .idle)
    (running : u.ctl.state = .running) (queued : u.rtq = i :: rest) :
    (i.action = .move → u.startIfDue = ((u.taken rest).startMove i).reoffer) ∧
    (i.action = .release → u.startIfDue = ((u.taken rest).startRelease i).reoffer) := by
  have due : u.startDue = true := by simp [State.startDue, idle, running, queued]
  have starts : u.startIfDue = u.startItem := if_pos due
  rw [starts, State.startItem, queued]
  exact ⟨fun move => by simp only [move]; rfl, fun release => by simp only [release]; rfl⟩

/-- The state with a move begun: the target HELD, the new slots of the remap table, and the Copy Unit at its item
(R30, R42). -/
def State.moveBegun (v : State) (i : RetireItem) (t : Nat) (slots : List (Option RemapEntry)) : State :=
  { v with
    lrt := { slots := slots, gen := v.lrt.gen + 1 }
    pool := { spares := v.pool.spares.set t .held, lowLevel := v.pool.lowLevel }
    copy := v.copy.begin_ i }

/-- A move of a line without an entry makes a COPYING one, with the crossing test last (R28, R30, R42). -/
theorem State.startMove_new (v : State) (i : RetireItem) (t : Nat) (absent : v.entryOf i.line = none)
    (free : v.pool.lowestFree = some t) :
    v.startMove i = (v.moveBegun i t (fillLowest v.lrt.slots
      { line := i.line, state := .copying t, origin := i.origin.remap })).noteCrossing (v.pool.count .free) := by
  have keeps : KeepsReports (fun z => (z.addEntry
      { line := i.line, state := .copying t, origin := i.origin.remap }).setCopy (z.copy.begin_ i)) :=
    fun _ _ _ _ => rfl
  have idle : v.lineCopying i.line = false := by simp only [State.lineCopying, absent]
  simp only [State.startMove, idle, free, State.beginMove, absent]
  exact (keeps.noteCrossing (v.setSpare t .held) _ rfl).symm

/-- A move of an ACTIVE line makes its entry MOVING, with the crossing test last (R28, R30, R42). -/
theorem State.startMove_active (v : State) (i : RetireItem) (t c m : Nat) (e : RemapEntry)
    (found : v.entryOf i.line = some e) (state : e.state = .active c m) (free : v.pool.lowestFree = some t) :
    v.startMove i = (v.moveBegun i t (replaceEntry v.lrt.slots i.line (some
      { line := i.line, state := .moving c t m, origin := i.origin.remap }))).noteCrossing (v.pool.count .free) := by
  have keeps : KeepsReports (fun z => (z.putEntry i.line (some
      { line := i.line, state := .moving c t m, origin := i.origin.remap })).setCopy (z.copy.begin_ i)) :=
    fun _ _ _ _ => rfl
  have idle : v.lineCopying i.line = false := by simp only [State.lineCopying, found, state, RemapState.copying?]
  simp only [State.startMove, idle, free, State.beginMove, found, state]
  exact (keeps.noteCrossing (v.setSpare t .held) _ rfl).symm

/-- A move that finds no FREE spare ends NO_SPARE (R42). -/
theorem State.startMove_noSpare (v : State) (i : RetireItem) (idle : v.lineCopying i.line = false)
    (free : v.pool.lowestFree = none) : v.startMove i = v.moveNoSpare i := by
  simp only [State.startMove, idle, free]
  rfl

/-- A release of an ACTIVE line begins (R31, R43). -/
theorem State.startRelease_active (v : State) (i : RetireItem) (c m : Nat) (e : RemapEntry)
    (found : v.entryOf i.line = some e) (state : e.state = .active c m) :
    v.startRelease i = { v with
      lrt := { slots := replaceEntry v.lrt.slots i.line (some
                 { line := i.line, state := .releasing c m, origin := i.origin.remap }), gen := v.lrt.gen + 1 }
      copy := v.copy.begin_ i } := by
  simp only [State.startRelease, found, state]
  rfl

/-- A release of a line without an entry ends NOT_REMAPPED (R43). -/
theorem State.startRelease_absent (v : State) (i : RetireItem) (absent : v.entryOf i.line = none) :
    v.startRelease i = v.completeItem i .notRemapped := by
  simp only [State.startRelease, absent]

/-- Settles O30: the crossing test and the slots by their definitions, and the start of the head item by its action, the
line's entry and the lowest FREE spare. -/
theorem itemStarts : Obligations.ItemStarts := by
  refine ⟨fun u before => ⟨fun crossed => if_pos crossed, fun stays => if_neg stays⟩,
    fun slots j e x new => ⟨fillLowest_eq_set slots j e, replaceEntry_eq_set slots j x new⟩, ?_⟩
  intro s i rest u idle running queued v begun origin moves endsAt
  have starts : exec .itemStart s = .next u.startIfDue := rfl
  obtain ⟨move, release⟩ := u.startIfDue_eq i rest idle running queued
  clear_value u
  refine ⟨fun action => ?_, fun action => ?_⟩
  · rw [move action] at starts
    refine ⟨fun t absent free => ?_, fun t e c m found state free => ?_, fun idle free => ?_⟩
    · rw [State.startMove_new (u.taken rest) i t absent free] at starts
      exact starts
    · rw [State.startMove_active (u.taken rest) i t c m e found state free] at starts
      exact starts
    · rw [State.startMove_noSpare (u.taken rest) i idle free] at starts
      exact starts
  · rw [release action] at starts
    refine ⟨fun e c m found state => ?_, fun absent => ?_⟩
    · rw [State.startRelease_active (u.taken rest) i c m e found state] at starts
      exact starts
    · rw [State.startRelease_absent (u.taken rest) i absent] at starts
      exact starts

end Sys2Proof.Machine
end

section
/-!
PROOFS. Every step keeps every collection within its size (R18, R25, R64, R90, R100, R125, R140, R154). No table changes
its number of slots, and a list grows only by an offer that found room in it.
-/

namespace Sys2Proof.Machine

/-! ## Sizes, and changes by which nothing grows -/

/-- Every table has its slots and every list its bound: the invariant, block by block. -/
structure State.Sized (s : State) : Prop where
  olt : s.olt.slots.length = 8
  lrt : s.lrt.slots.length = 128
  pool : s.pool.spares.length = 128
  regions : s.regions.entries.length = 8
  rtq : s.rtq.length ≤ 8
  suspects : s.suspects.entries.length ≤ 16
  erq : s.erq.records.length ≤ 32
  ports : ∀ p, (s.ports.get p).queue.length ≤ 8

theorem State.fits_iff (s : State) : s.fits ↔ s.Sized := by
  constructor
  · rintro ⟨olt, lrt, pool, regions, rtq, suspects, erq, p0, p1, p2, p3⟩
    exact ⟨olt, lrt, pool, regions, rtq, suspects, erq, fun p => by cases p <;> assumption⟩
  · rintro ⟨olt, lrt, pool, regions, rtq, suspects, erq, ports⟩
    exact ⟨olt, lrt, pool, regions, rtq, suspects, erq, ports .p0, ports .p1, ports .p2, ports .p3⟩

/-- Between s and t no table changes its number of slots and no list grows. -/
structure State.NoLarger (s t : State) : Prop where
  olt : t.olt.slots.length = s.olt.slots.length
  lrt : t.lrt.slots.length = s.lrt.slots.length
  pool : t.pool.spares.length = s.pool.spares.length
  regions : t.regions.entries.length = s.regions.entries.length
  rtq : t.rtq.length ≤ s.rtq.length
  suspects : t.suspects.entries.length ≤ s.suspects.entries.length
  erq : t.erq.records.length ≤ s.erq.records.length
  ports : ∀ p, (t.ports.get p).queue.length ≤ (s.ports.get p).queue.length

theorem State.Sized.noLarger {s t : State} (h : s.Sized) (n : s.NoLarger t) : t.Sized where
  olt := n.olt.trans h.olt
  lrt := n.lrt.trans h.lrt
  pool := n.pool.trans h.pool
  regions := n.regions.trans h.regions
  rtq := n.rtq.trans h.rtq
  suspects := n.suspects.trans h.suspects
  erq := n.erq.trans h.erq
  ports := fun p => (n.ports p).trans (h.ports p)

/-! ## The tables: their operations keep the slots (R18, R25, R64) -/

@[simp] theorem State.removeEntry_slots (s : State) (k : Nat) :
    (s.removeEntry k).olt.slots.length = s.olt.slots.length := (s.removeEntry_shape k).1

@[simp] theorem State.createEntry_slots (s : State) (work : Work) (line : Nat) (cls : CheckClass) :
    (s.createEntry work line cls).olt.slots.length = s.olt.slots.length := by
  unfold State.createEntry
  split <;> simp

@[simp] theorem removeEntries_slots (ks : List Nat) (s : State) :
    (removeEntries ks s).olt.slots.length = s.olt.slots.length := by
  induction ks generalizing s with
  | nil => rfl
  | cons k ks ih => simp [removeEntries, ih]

@[simp] theorem State.haltTable_slots (s : State) : s.haltTable.olt.slots.length = s.olt.slots.length :=
  removeEntries_slots _ s

@[simp] theorem State.endItem_slots (s : State) (i : RetireItem) (r : CmdResult) :
    (s.endItem i r).olt.slots.length = s.olt.slots.length := by
  simp [State.endItem]

@[simp] theorem State.beginMove_slots (s : State) (line : Nat) (origin : RemapOrigin) (n : Nat) :
    (s.beginMove line origin n).lrt.slots.length = s.lrt.slots.length ∧
    (s.beginMove line origin n).pool.spares.length = s.pool.spares.length := by
  unfold State.beginMove
  (repeat' split) <;> simp

@[simp] theorem State.replaceTarget_slots (s : State) (line failed n : Nat) :
    (s.replaceTarget line failed n).lrt.slots.length = s.lrt.slots.length ∧
    (s.replaceTarget line failed n).pool.spares.length = s.pool.spares.length := by
  unfold State.replaceTarget
  (repeat' split) <;> simp

@[simp] theorem State.commitEntry_slots (s : State) (line : Nat) :
    (s.commitEntry line).lrt.slots.length = s.lrt.slots.length ∧
    (s.commitEntry line).pool.spares.length = s.pool.spares.length := by
  unfold State.commitEntry
  (repeat' split) <;> simp

@[simp] theorem State.abortEntry_slots (s : State) (line : Nat) (x : SpareState) :
    (s.abortEntry line x).lrt.slots.length = s.lrt.slots.length ∧
    (s.abortEntry line x).pool.spares.length = s.pool.spares.length := by
  unfold State.abortEntry
  (repeat' split) <;> simp

/-! ## The lists: what grows found room (R90, R100, R125) -/

/-- The record queue holds at most 32 records after an offer (R125). -/
theorem State.Sized.offer {s : State} (h : s.Sized) (r : Record) : (s.offer r).Sized := by
  obtain ⟨olt, lrt, pool, regions, rtq, suspects, erq, ports⟩ := h
  exact ⟨by simpa using olt, by simpa using lrt, by simpa using pool, by simpa using regions, by simpa using rtq,
    by simpa using suspects, s.offer_length r erq, by simpa using ports⟩

theorem State.Sized.count {s : State} (h : s.Sized) (c : Counter) : (s.count c).Sized :=
  h.noLarger (by constructor <;> simp)

/-- A nomination queues its item where there is room (R95, R101). -/
theorem State.Sized.nominate {s : State} (h : s.Sized) (line : Nat) : (s.nominate line).Sized := by
  have room := s.nominate_rtq_length line h.rtq
  have list : (s.nominate line).suspects.entries.length ≤ s.suspects.entries.length := by
    unfold State.nominate
    split <;> simp [State.setWaiting, State.setSuspectEntries, State.enqueue, dropSuspect_length_le]
  obtain ⟨olt, lrt, pool, regions, rtq, suspects, erq, ports⟩ := h
  exact ⟨by simpa using olt, by simpa using lrt, by simpa using pool, by simpa using regions, room,
    list.trans suspects, by simpa using erq, by simpa using ports⟩

theorem State.Sized.nominateAt {s : State} (h : s.Sized) (line n : Nat) : (s.nominateAt line n).Sized := by
  unfold State.nominateAt
  split
  · exact h.nominate line
  · exact h

theorem State.Sized.nominateLines {s : State} (h : s.Sized) (ls : List Nat) : (nominateLines ls s).Sized := by
  induction ls generalizing s with
  | nil => exact h
  | cons line ls ih => exact ih (h.nominate line)

/-- An updated or new entry takes the place of its line's, or a free one (R89, R90). -/
theorem State.Sized.suspectAtTail {s : State} (h : s.Sized) (e : Suspect)
    (room : (dropSuspect s.suspects.entries e.line).length < 16) : (s.suspectAtTail e).Sized := by
  obtain ⟨olt, lrt, pool, regions, rtq, suspects, erq, ports⟩ := h
  exact ⟨by simpa using olt, by simpa using lrt, by simpa using pool, by simpa using regions, by simpa using rtq,
    by simpa using room, by simpa using erq, by simpa using ports⟩

theorem State.Sized.removeSuspect {s : State} (h : s.Sized) (line : Nat) : (s.removeSuspect line).Sized :=
  h.noLarger (by constructor <;> simp [dropSuspect_length_le])

/-- A new suspect takes a free position, or that of the evicted entry (R94). -/
theorem State.Sized.addSuspect {s : State} (h : s.Sized) (line : Nat) (l : Loc) (mask : WordMask) :
    (s.addSuspect line l mask).Sized := by
  unfold State.addSuspect
  split
  next free =>
    exact (h.suspectAtTail _ ((dropSuspect_length_le _ _).trans_lt free)).nominateAt _ _
  · split
    next v evicted =>
      have left := dropSuspect_length_lt _ v (victim_some _ v evicted).1
      have counted : ((s.removeSuspect v.line).count .suspectEvict).Sized :=
        (h.removeSuspect v.line).noLarger (by constructor <;> simp)
      refine (counted.suspectAtTail _ ((dropSuspect_length_le _ _).trans_lt ?_)).nominateAt _ _
      simpa using left.trans_le h.suspects
    next => exact h.noLarger (by constructor <;> simp)

/-- A CORRECTED outcome updates at most one entry of the list (R91 to R94). -/
theorem State.Sized.suspectUpdate {s : State} (h : s.Sized) (line : Nat) (l : Loc) (mask : WordMask) :
    (s.suspectUpdate line l mask).Sized := by
  unfold State.suspectUpdate
  split
  · exact h
  · split
    next e found =>
      have same : e.line = line := by simpa using List.find?_some found
      have room := (dropSuspect_length_lt _ e (List.mem_of_find?_eq_some found)).trans_le h.suspects
      split
      · unfold State.bumpSuspect
        split
        · exact h.suspectAtTail _ room
        · refine State.Sized.nominateAt (h.suspectAtTail _ ?_) _ _
          exact room
      · exact (h.suspectAtTail _ (by simpa [freshSuspect, same] using room)).nominateAt _ _
    next => exact h.addSuspect line l mask

theorem reofferLines_sized (ls : List Nat) {s : State} (h : s.Sized) : (reofferLines ls s).Sized := by
  induction ls generalizing s with
  | nil => exact h
  | cons line ls ih =>
    unfold reofferLines
    split
    next accepted => exact s.nominate_accepted line accepted ▸ h.nominate line
    next => exact ih (h.removeSuspect line)
    next => exact h

theorem State.Sized.reoffer {s : State} (h : s.Sized) : s.reoffer.Sized := reofferLines_sized _ h

theorem State.Sized.setThreshold {s : State} (h : s.Sized) (n : Nat) : (s.setThreshold n).Sized :=
  State.Sized.nominateLines (h.noLarger (by constructor <;> simp)) _

/-- An offer to the Retirement Queue that is accepted finds room (R101). -/
theorem State.Sized.enqueue {s : State} (h : s.Sized) (line : Nat) (i : RetireItem)
    (accepted : s.rtqAnswer line = .accepted) : (s.enqueue i).Sized := by
  have room := ((s.rtqAnswer_accepted line).1 accepted).2.2
  obtain ⟨olt, lrt, pool, regions, rtq, suspects, erq, ports⟩ := h
  exact ⟨olt, lrt, pool, regions, by simpa [State.enqueue] using room, suspects, erq, ports⟩

theorem State.Sized.retireOnUe {s : State} (h : s.Sized) (line : Nat) : (s.retireOnUe line).Sized := by
  unfold State.retireOnUe
  split
  · split
    next accepted => exact h.enqueue line _ accepted
    next => exact h
    next => exact h.noLarger (by constructor <;> simp)
  · exact h

theorem State.Sized.reportCorrected {s : State} (h : s.Sized) (src : RecordSource) (line : Nat) (l : Loc)
    (mask : WordMask) : (s.reportCorrected src line l mask).Sized :=
  ((h.offer _).count .corrected).suspectUpdate line l mask

theorem State.Sized.reportUncorrectable {s : State} (h : s.Sized) (src : RecordSource) (line : Nat) (l : Loc)
    (mask : WordMask) : (s.reportUncorrectable src line l mask).Sized :=
  (h.offer _).count .uncorrectable

/-! ## The Copy Unit's work on an item (R41 to R54) -/

theorem State.Sized.moveNoSpare {s : State} (h : s.Sized) (i : RetireItem) : (s.moveNoSpare i).Sized :=
  ((h.offer (exhaustedRecord i.line)).count .retireFailed).noLarger (by constructor <;> simp [State.moveNoSpare])

theorem State.Sized.startMove {s : State} (h : s.Sized) (i : RetireItem) : (s.startMove i).Sized := by
  unfold State.startMove
  split
  · exact h
  · split
    · exact h.moveNoSpare i
    · exact h.noLarger (by constructor <;> simp)

theorem State.Sized.startRelease {s : State} (h : s.Sized) (i : RetireItem) : (s.startRelease i).Sized := by
  unfold State.startRelease
  split
  · exact h.noLarger (by constructor <;> simp)
  · split <;> exact h.noLarger (by constructor <;> simp)

theorem State.Sized.startItem {s : State} (h : s.Sized) : s.startItem.Sized := by
  unfold State.startItem
  split
  · exact h
  next i rest queue =>
    have taken : ((s.setRtq rest).setCopy { s.copy with itemNo := s.copy.itemNo + 1 }).Sized :=
      h.noLarger (by constructor <;> simp [queue])
    cases i.action
    · exact (taken.startMove i).reoffer
    · exact (taken.startRelease i).reoffer

theorem State.Sized.endItem {s : State} (h : s.Sized) (i : RetireItem) (r : CmdResult) : (s.endItem i r).Sized :=
  h.noLarger (by constructor <;> simp)

theorem State.Sized.abortEntry {s : State} (h : s.Sized) (line : Nat) (x : SpareState) :
    (s.abortEntry line x).Sized :=
  h.noLarger (by constructor <;> simp)

theorem State.Sized.issueTarget {s : State} (h : s.Sized) : s.issueTarget.Sized :=
  h.noLarger (by constructor <;> simp)

theorem State.Sized.commit {s : State} (h : s.Sized) (i : RetireItem) : (s.commit i).Sized := by
  have moved : (s.commitEntry i.line).Sized := h.noLarger (by constructor <;> simp)
  unfold State.commit
  dsimp only
  split
  · exact (((moved.offer _).removeSuspect i.line).count .retired).endItem i .done
  · exact ((moved.offer _).count .retired).endItem i .done

theorem State.Sized.moveVerifyFailed {s : State} (h : s.Sized) (i : RetireItem) (n : Nat) :
    (s.moveVerifyFailed i n).Sized := by
  have recorded := h.offer (spareBadRecord i.line n)
  unfold State.moveVerifyFailed
  dsimp only
  split
  · split
    · exact State.Sized.issueTarget (recorded.noLarger (by constructor <;> simp))
    · exact (((recorded.abortEntry i.line .bad).offer _).count .retireFailed).endItem i .noSpare
  · exact (((recorded.abortEntry i.line .bad).offer _).count .retireFailed).endItem i .failed

theorem State.Sized.verifyOutcome {s : State} (h : s.Sized) (i : RetireItem) (o : LineOutcome) :
    (s.verifyOutcome i o).Sized := by
  unfold State.verifyOutcome
  split
  · unfold State.verifyGood
    split
    · split
      · exact State.Sized.issueTarget (h.noLarger (by constructor <;> simp))
      · exact State.Sized.issueTarget (h.noLarger (by constructor <;> simp))
    · exact h.commit i
  · unfold State.verifyFailed
    split
    · exact h.moveVerifyFailed i _
    · exact (((h.abortEntry i.line .free).offer _).count .retireFailed).endItem i .failed

theorem State.Sized.copyHalt {s : State} (h : s.Sized) : s.copyHalt.Sized := by
  unfold State.copyHalt
  split
  · exact h
  · exact (h.abortEntry _ .free).endItem _ .aborted

/-! ## Entry to HALTED (R179 to R181) -/

theorem State.Sized.haltPorts {s : State} (h : s.Sized) : s.haltPorts.Sized :=
  h.noLarger ⟨rfl, rfl, rfl, rfl, le_rfl, le_rfl, le_rfl, fun p => by cases p <;> exact Nat.zero_le _⟩

theorem State.Sized.haltRtq {s : State} (h : s.Sized) : s.haltRtq.Sized := by
  unfold State.haltRtq
  split
  · exact State.Sized.reoffer (h.noLarger (by constructor <;> simp [List.length_filter_le]))
  · exact h

theorem State.Sized.haltWork {s : State} (h : s.Sized) :
    s.haltPorts.haltTable.copyHalt.patrolHalt.haltRtq.haltStop.Sized := by
  have table : s.haltPorts.haltTable.Sized := h.haltPorts.noLarger (by constructor <;> simp)
  have patrol : s.haltPorts.haltTable.copyHalt.patrolHalt.Sized := table.copyHalt.noLarger (by constructor <;> simp)
  exact patrol.haltRtq.noLarger (by constructor <;> simp)

theorem State.Sized.haltOnUe {s : State} (h : s.Sized) (line : Nat) : (s.haltOnUe line).Sized := by
  unfold State.haltOnUe
  split
  · have named : (s.setCtl { s.ctl with state := .halted, haltReason := .ueOnDemand }).Sized :=
      h.noLarger (by constructor <;> simp)
    exact State.Sized.haltWork ((named.offer (haltedRecord line)).noLarger (by constructor <;> simp))
  · exact h

/-! ## What is due (R41, R67, R68) -/

/-- An entry that leaves the table or stays in it after changes by which nothing has grown. -/
theorem State.Sized.removeEntry {s : State} (h : s.Sized) (k : Nat) : (s.removeEntry k).Sized :=
  h.noLarger (by constructor <;> simp)

theorem State.Sized.putOpen {s : State} (h : s.Sized) (k : Nat) (e : OpenEntry) : (s.putOpen k e).Sized :=
  h.noLarger (by constructor <;> simp)

theorem State.Sized.answer {s : State} (h : s.Sized) (r : Response) : (s.answer r).Sized :=
  h.noLarger (by constructor <;> simp)

theorem State.Sized.createEntry {s : State} (h : s.Sized) (work : Work) (line : Nat) (cls : CheckClass) :
    (s.createEntry work line cls).Sized :=
  h.noLarger (by constructor <;> simp)

theorem State.Sized.issueEntry {s : State} (h : s.Sized) (k : Nat) : (s.issueEntry k).Sized := by
  unfold State.issueEntry
  split
  · exact h
  next e _ =>
    have reads (l : Loc) (decoded : Bool) : (s.issueEntryRead k e l decoded).Sized :=
      h.noLarger (by constructor <;> simp [State.issueEntryRead])
    split
    · split
      · exact h.noLarger (by constructor <;> simp [State.patrolSkip])
      · exact reads _ _
    · exact reads _ _
    · split
      · exact reads _ _
      · unfold State.serveRead
        dsimp only
        split
        · exact (((h.answer _).offer _).count .poison).removeEntry k
        · exact (h.answer _).removeEntry k
    · split
      · unfold State.issueArrayWrite
        split
        · exact h.noLarger (by constructor <;> simp)
        · exact reads _ _
      · unfold State.issueBufferWrite
        split
        · exact h.putOpen k _
        · split
          · exact (((h.answer _).offer _).count .poison).removeEntry k
          · exact h.noLarger (by constructor <;> simp [State.mergeWrite])

theorem issueDue_sized (n : Nat) {s : State} (h : s.Sized) : (issueDue n s).Sized := by
  induction n generalizing s with
  | zero => exact h
  | succ n ih =>
    simp only [issueDue]
    split
    · exact h
    next k _ => exact ih (h.issueEntry k)

theorem State.Sized.settleIssues {s : State} (h : s.Sized) : s.settleIssues.Sized := issueDue_sized _ h

theorem State.Sized.startIfDue {s : State} (h : s.Sized) : s.startIfDue.Sized := by
  unfold State.startIfDue
  split
  · exact h.startItem
  · exact h

theorem startDueItems_sized (n : Nat) {s : State} (h : s.Sized) : (startDueItems n s).Sized := by
  induction n generalizing s with
  | zero => exact h
  | succ n ih =>
    simp only [startDueItems]
    split
    · exact ih h.startItem
    · exact h

theorem State.Sized.newStep {s : State} (h : s.Sized) : s.newStep.Sized := h.noLarger (by constructor <;> simp)

theorem State.Sized.started {s : State} (h : s.Sized) : s.newStep.settleIssues.settleStarts.Sized :=
  startDueItems_sized _ h.newStep.settleIssues

theorem State.Sized.opened {s : State} (h : s.Sized) : s.opened.Sized :=
  h.started.noLarger (by constructor <;> simp [State.opened, State.settle])

/-! ## Completions and grants (R70 to R81, R164) -/

theorem State.Sized.finishOp {s : State} (h : s.Sized) (op : ArrayOp) : (s.finishOp op).Sized :=
  h.noLarger (by constructor <;> simp)

theorem State.Sized.issueWrite {s : State} (h : s.Sized) (l : Loc) (line : Nat) (d : LineData) (b : Issuer) :
    (s.issueWrite l line d b).Sized :=
  h.noLarger (by constructor <;> simp)

theorem State.Sized.issuePoison {s : State} (h : s.Sized) (l : Loc) (line : Nat) (b : Issuer) :
    (s.issuePoison l line b).Sized :=
  h.noLarger (by constructor <;> simp)

/-- An answer POISONED with its record and counter, after which the entry leaves (R73, R78). -/
theorem State.Sized.poisonHit {s : State} (h : s.Sized) (a : Response) (r : Record) (k : Nat) :
    ((((s.answer a).offer r).count .poison).removeEntry k).Sized :=
  (((h.answer a).offer r).count .poison).removeEntry k

theorem State.Sized.readDecoded {s : State} (h : s.Sized) (k : Nat) (e : OpenEntry) (p : PortId) (t : Tag)
    (r : LineRead) : (s.readDecoded k e p t r).Sized := by
  unfold State.readDecoded
  split
  · exact (h.answer _).removeEntry k
  · unfold State.readCorrected
    dsimp only
    split
    · exact (((h.answer _).reportCorrected _ _ _ _).issueWrite _ _ _ _).putOpen k _
    · exact ((h.answer _).reportCorrected _ _ _ _).removeEntry k
  · exact State.Sized.haltOnUe ((((h.answer _).reportUncorrectable _ _ _ _).retireOnUe _).removeEntry k) _
  · exact h.poisonHit _ _ k

theorem State.Sized.demandReadDone {s : State} (h : s.Sized) (k : Nat) : (s.demandReadDone k).Sized := by
  unfold State.demandReadDone
  split
  · exact h
  next e op _ =>
    split
    · exact (h.finishOp op).readDecoded k e _ _ _
    · exact ((h.finishOp op).answer _).removeEntry k
    · exact h

theorem State.Sized.writeMerged {s : State} (h : s.Sized) (k : Nat) (e : OpenEntry) (mask : ByteMask)
    (data old : LineData) (res : Option EntryResult) : (s.writeMerged k e mask data old res).Sized :=
  (h.issueWrite _ _ _ _).putOpen k _

theorem State.Sized.partialReadDone {s : State} (h : s.Sized) (k : Nat) : (s.partialReadDone k).Sized := by
  unfold State.partialReadDone
  split
  · exact h
  next e op _ =>
    have done := h.finishOp op
    split
    next p t mask data _ _ _ =>
      unfold State.partialDecoded
      split
      · exact done.writeMerged k e mask data _ _
      · exact (done.reportCorrected _ _ _ _).writeMerged k e mask data _ _
      · exact ((done.issuePoison _ _ _).putOpen k _).reportUncorrectable _ _ _ _
      · exact done.poisonHit _ _ k
    next => exact done.writeMerged k e _ _ _ _
    next => exact h

theorem State.Sized.demandWriteDone {s : State} (h : s.Sized) (k : Nat) : (s.demandWriteDone k).Sized := by
  unfold State.demandWriteDone
  split
  · exact h
  next e op _ =>
    split
    · split
      · exact h
      · exact ((h.finishOp op).answer _).removeEntry k
    · exact h

theorem State.Sized.poisonWriteDone {s : State} (h : s.Sized) (k : Nat) : (s.poisonWriteDone k).Sized := by
  unfold State.poisonWriteDone
  split
  · exact h
  next e op _ =>
    split
    · split
      · exact State.Sized.haltOnUe ((((h.finishOp op).answer _).retireOnUe e.line).removeEntry k) _
      · exact h
    · exact h

theorem State.Sized.sourceWriteDone {s : State} (h : s.Sized) (k : Nat) : (s.sourceWriteDone k).Sized := by
  unfold State.sourceWriteDone
  split
  · exact h
  next e op _ =>
    split
    · split
      · exact ((h.finishOp op).answer _).removeEntry k
      · exact h
    · exact h

theorem State.Sized.writebackDone {s : State} (h : s.Sized) (k : Nat) : (s.writebackDone k).Sized := by
  unfold State.writebackDone
  split
  · exact h
  next e op _ =>
    split
    · exact (h.finishOp op).removeEntry k
    · exact h

theorem State.Sized.endPatrolEntry {s : State} (h : s.Sized) (k : Nat) : (s.endPatrolEntry k).Sized :=
  h.noLarger (by constructor <;> simp [State.endPatrolEntry])

theorem State.Sized.patrolReadDone {s : State} (h : s.Sized) (k : Nat) : (s.patrolReadDone k).Sized := by
  unfold State.patrolReadDone
  split
  · exact h
  next e op _ =>
    split
    · have counted := (h.finishOp op).count .patrolLines
      unfold State.patrolOutcome
      dsimp only
      split
      · exact counted.endPatrolEntry k
      · exact ((counted.reportCorrected _ _ _ _).issueWrite _ _ _ _).putOpen k _
      · split
        · exact ((counted.reportUncorrectable _ _ _ _).issuePoison _ _ _).putOpen k _
        · exact (counted.reportUncorrectable _ _ _ _).endPatrolEntry k
      · exact (counted.count .poisonSeen).endPatrolEntry k
    · exact h

theorem State.Sized.scrubWriteDone {s : State} (h : s.Sized) (k : Nat) : (s.scrubWriteDone k).Sized := by
  unfold State.scrubWriteDone
  split
  · exact h
  next e op _ =>
    split
    · exact (h.finishOp op).endPatrolEntry k
    · exact h

theorem State.Sized.fillDecoded {s : State} (h : s.Sized) (line : Nat) (l : Loc) (r : LineRead) :
    (s.fillDecoded line l r).Sized := by
  have filled (d : LineData) (poison : Bool) : (s.fillBuffer d poison).Sized := h.noLarger (by constructor <;> simp)
  unfold State.fillDecoded
  split
  · exact filled _ _
  · exact filled _ _
  · exact (filled _ _).reportUncorrectable _ _ _ _
  · exact filled _ _

theorem State.Sized.afterCopyRead {s : State} (h : s.Sized) (k : Nat) (waiterFirst : Bool) :
    (s.afterCopyRead k waiterFirst).Sized := by
  unfold State.afterCopyRead
  split
  · exact (h.removeEntry k).settleIssues.issueTarget
  · exact (h.removeEntry k).issueTarget

theorem State.Sized.copyReadDone {s : State} (h : s.Sized) (k : Nat) (waiterFirst : Bool) :
    (s.copyReadDone k waiterFirst).Sized := by
  unfold State.copyReadDone
  split
  · exact h
  next e op _ =>
    split
    · split
      · exact ((h.finishOp op).fillDecoded _ _ _).afterCopyRead k waiterFirst
      · exact h
    · split
      · exact State.Sized.afterCopyRead (h.noLarger (by constructor <;> simp)) k waiterFirst
      · exact h
    · exact h

theorem State.Sized.targetWriteDone {s : State} (h : s.Sized) : s.targetWriteDone.Sized :=
  h.noLarger (by constructor <;> simp)

theorem State.Sized.verifyDone {s : State} (h : s.Sized) : s.verifyDone.Sized := by
  unfold State.verifyDone
  split
  · exact (h.finishOp _).verifyOutcome _ _
  · exact h

theorem State.Sized.lateDone {s : State} (h : s.Sized) (op : LateOp) : (s.lateDone op).Sized := by
  cases op with
  | entry k =>
    simp only [State.lateDone, State.lateEntry]
    split
    · exact h
    next e op _ =>
      split
      · split
        · exact h
        · exact (h.finishOp op).removeEntry k
      · exact h
  | array phys => exact h.noLarger (by constructor <;> simp [State.lateDone])

theorem State.Sized.grantHead {s : State} (h : s.Sized) (p : PortId) (r : Request) : (s.grantHead p r).Sized := by
  have refused (st : RespStatus) (d : DenyReason) : (s.refuse p r st d).Sized := (h.answer _).offer _
  unfold State.grantHead
  split
  · exact refused _ _
  · split
    · split
      · exact h.createEntry _ _ _
      · exact refused _ _
    · split
      · split
        · exact refused _ _
        · split
          · exact h.answer _
          · exact h.createEntry _ _ _
      · exact refused _ _

/-- A grant takes the head off its queue (R158). -/
theorem State.Sized.grantPort {s : State} (h : s.Sized) (p : PortId) : (s.grantPort p).Sized := by
  unfold State.grantPort
  split
  · exact h
  next r rest queue =>
    refine State.Sized.grantHead ?_ p r
    refine h.noLarger ⟨rfl, rfl, rfl, rfl, le_rfl, le_rfl, le_rfl, fun q => ?_⟩
    simp only [State.setArbiter_ports, State.setPorts_ports, Ports.get_set]
    split
    next same => simp [same, queue]
    next => exact le_rfl

theorem State.Sized.grantPortHead {s : State} (h : s.Sized) : s.grantPortHead.Sized := by
  unfold State.grantPortHead
  split
  · exact h.grantPort _
  all_goals exact h

theorem State.Sized.grantCopyRead {s : State} (h : s.Sized) : s.grantCopyRead.Sized := by
  unfold State.grantCopyRead State.grantCopy
  split
  · split
    · exact h
    · exact h.createEntry _ _ _
  all_goals exact h

theorem State.Sized.grantPatrolUnit {s : State} (h : s.Sized) : s.grantPatrolUnit.Sized := by
  unfold State.grantPatrolUnit State.grantPatrol
  split
  · split
    · exact h
    · split
      · exact h.noLarger (by constructor <;> simp [State.patrolTakeOff])
      · exact h.noLarger (by constructor <;> simp)
  all_goals exact h

/-- A request is queued while its port is ready, which it is with room in its queue (R153, R155). -/
theorem State.Sized.acceptRequest {s : State} (h : s.Sized) (p : PortId) (r : Request) :
    (s.acceptRequest p r).Sized := by
  have answered (st : RespStatus) : (s.present (plainAnswer p r st)).Sized := h.noLarger (by constructor <;> simp)
  unfold State.acceptRequest
  split
  next ready =>
    split
    · exact answered _
    · split
      next =>
        have room : (s.ports.get p).queue.length < 8 := by
          simp only [State.ready, Bool.and_eq_true, decide_eq_true_eq] at ready
          exact ready.1
        obtain ⟨olt, lrt, pool, regions, rtq, suspects, erq, ports⟩ := h
        refine ⟨olt, lrt, pool, regions, rtq, suspects, erq, fun q => ?_⟩
        simp only [State.queueRequest, State.setPorts_ports, Ports.get_set]
        split
        · simpa using room
        · exact ports q
      all_goals exact answered _
  · exact h

/-! ## The patrol's timer, commands and register writes (R107 to R109, R184 to R196) -/

theorem State.Sized.expireTimer {s : State} (h : s.Sized) : s.expireTimer.Sized := by
  unfold State.expireTimer State.timerExpiry State.chooseBackground
  split
  · exact h
  · split
    · split
      · exact h.noLarger (by constructor <;> simp)
      · split
        · have recorded := h.offer (sweepRecord (s.patrol.sweep + 1))
          unfold State.endSweep
          dsimp only
          split <;> exact recorded.noLarger
            (by constructor <;> simp [State.decaySuspects, State.setSuspectEntries, List.length_filterMap_le])
        · exact h.noLarger (by constructor <;> simp)
    · exact h.noLarger (by constructor <;> simp)

theorem State.Sized.offerCommandItem {s : State} (h : s.Sized) (c : Command) (line : Nat) (a : ItemAction) :
    (s.offerCommandItem c line a).Sized := by
  unfold State.offerCommandItem
  split
  next accepted =>
    have answer : (s.holdSlot c).rtqAnswer line = .accepted := by
      rw [← accepted]
      exact State.rtqAnswer_congr _ _ line rfl rfl
    exact State.Sized.enqueue (h.noLarger (by constructor <;> simp)) line _ answer
  all_goals exact h.noLarger (by constructor <;> simp)

theorem State.Sized.take {s : State} (h : s.Sized) (c : Command) : (s.take c).Sized := by
  cases c with
  | init => exact h.noLarger (by constructor <;> simp [State.take, State.takeInit, State.setSuspectEntries])
  | setRegion =>
    simp only [State.take, State.takeSetRegion]
    (repeat' split) <;> exact h.noLarger (by constructor <;> simp [State.putRegion])
  | clearRegion =>
    simp only [State.take, State.takeClearRegion]
    split <;> exact h.noLarger (by constructor <;> simp [State.putRegion])
  | retire =>
    simp only [State.take, State.takeRetire]
    split
    · exact h.noLarger (by constructor <;> simp)
    · exact h.offerCommandItem _ _ _
  | release =>
    simp only [State.take, State.takeRelease]
    split
    · exact h.noLarger (by constructor <;> simp)
    · exact h.offerCommandItem _ _ _
  | loadRemap =>
    simp only [State.take, State.takeLoadRemap]
    (repeat' split) <;> exact h.noLarger (by constructor <;> simp)
  | markSpareBad =>
    simp only [State.take, State.takeMarkSpareBad]
    split
    · exact h.noLarger (by constructor <;> simp)
    · split
      · have taken : (s.takeSpare s.cmd.arg0.toNat .bad).Sized := h.noLarger (by constructor <;> simp)
        exact (taken.offer (markBadRecord s.cmd.arg0.toNat)).noLarger (by constructor <;> simp)
      all_goals exact h.noLarger (by constructor <;> simp)
  | clearSuspects => exact h.noLarger (by constructor <;> simp [State.take, State.takeClearSuspects, State.setSuspectEntries])
  | _ => exact h.noLarger (by constructor <;> simp [State.take])

theorem State.Sized.writeReg {s : State} (h : s.Sized) (r : Reg) (v : Word32) : (s.writeReg r v).Sized := by
  cases r with
  | suspectCfg =>
    simp only [State.writeReg, State.writeSuspectCfg]
    split
    · exact h.setThreshold _
    · exact h
  | cmdCode =>
    simp only [State.writeReg, State.writeCode, State.takeCode, State.tryTake]
    split
    · exact h.noLarger (by constructor <;> simp)
    · split
      · exact h.noLarger (by constructor <;> simp)
      · split
        · exact h.take _
        · exact h.noLarger (by constructor <;> simp)
  | spareCfg =>
    simp only [State.writeReg, State.writeSpareCfg]
    split
    · exact h.noLarger (by constructor <;> simp)
    · exact h
  | _ => exact h.noLarger (by constructor <;> simp [State.writeReg, State.writeStage, State.popRecord])

theorem State.Sized.busWrite {s : State} (h : s.Sized) (r : Reg) (be : Enables) (v : Word32) :
    (s.busWrite r be v).Sized := by
  unfold State.busWrite
  split
  · exact h
  · exact h.writeReg r v

theorem State.Sized.windowWrite {s : State} (h : s.Sized) (offset : BitVec 12) (be : Enables) (v : Word32) :
    (s.windowWrite offset be v).Sized := by
  unfold State.windowWrite
  split
  · exact h
  · exact h.busWrite _ be v

/-! ## Resets (R198) -/

theorem State.powerOn_sized (s : State) : s.powerOn.Sized :=
  ⟨rfl, rfl, rfl, rfl, Nat.zero_le _, Nat.zero_le _, Nat.zero_le _, fun p => by cases p <;> exact Nat.zero_le _⟩

theorem State.Sized.quietAbort {s : State} (h : s.Sized) : s.quietAbort.Sized := by
  unfold State.quietAbort
  split
  · exact h
  · exact h.abortEntry _ .free

/-- A warm reset empties the lists and keeps the slots of the tables (R198). -/
theorem State.Sized.warm {s : State} (h : s.Sized) : s.warm.Sized :=
  ⟨rfl, h.quietAbort.lrt, h.quietAbort.pool, h.regions, Nat.zero_le _, Nat.zero_le _, Nat.zero_le _,
    fun p => by cases p <;> exact Nat.zero_le _⟩

/-! ## One command, one step -/

/-- The next state is the one that a command answers. -/
theorem State.Sized.of_next {u t : State} (h : (.next u : Result) = .next t) (sized : u.Sized) : t.Sized :=
  Host.Outcome.next.inj h ▸ sized

theorem exec_sized (c : Instr) (s t : State) (sized : s.Sized) (h : exec c s = .next t) : t.Sized := by
  have opened := sized.opened
  have same : ∀ u : State, s.opened.NoLarger u → u.Sized := fun u => opened.noLarger
  cases c with
  | powerOnReset => exact .of_next h (State.powerOn_sized _)
  | warmReset => exact .of_next h opened.warm
  | requestAccept p r => exact .of_next h (opened.acceptRequest p r)
  | grantPortHead => exact .of_next h opened.grantPortHead
  | grantCopyRead => exact .of_next h opened.grantCopyRead
  | grantPatrol => exact .of_next h opened.grantPatrolUnit
  | entryIssue k =>
    refine .of_next h ?_
    unfold State.issueIfDue
    split
    · exact sized.newStep.issueEntry k
    · exact sized.newStep
  | demandReadComplete k => exact .of_next h (opened.demandReadDone k)
  | partialWriteReadComplete k => exact .of_next h (opened.partialReadDone k)
  | demandWriteComplete k => exact .of_next h (opened.demandWriteDone k)
  | rmwPoisonWriteComplete k => exact .of_next h (opened.poisonWriteDone k)
  | sourceWriteComplete k => exact .of_next h (opened.sourceWriteDone k)
  | writebackComplete k => exact .of_next h (opened.writebackDone k)
  | patrolReadComplete k => exact .of_next h (opened.patrolReadDone k)
  | scrubWriteComplete k => exact .of_next h (opened.scrubWriteDone k)
  | copyReadComplete k w => exact .of_next h (opened.copyReadDone k w)
  | targetWriteComplete => exact .of_next h opened.targetWriteDone
  | verifyComplete => exact .of_next h opened.verifyDone
  | lateCompletion op => exact .of_next h (opened.lateDone op)
  | itemStart => exact .of_next h sized.newStep.settleIssues.startIfDue
  | patrolTimerExpiry => exact .of_next h opened.expireTimer
  | initFillEnd | drainComplete | haltedStopComplete =>
    exact .of_next h (sized.started.noLarger (by constructor <;> simp))
  | init | start | stop | setRegion | clearRegion | retire | release | loadRemap | markSpareBad | scrub | inject
  | clearSuspects => exact .of_next h (opened.busWrite _ _ _)
  | unknownCommand code => exact .of_next h (opened.busWrite _ _ code)
  | commandRefused code => exact .of_next h (opened.busWrite _ _ code)
  | arrayCfgWrite be v | suspectCfgWrite be v | patrolCfgWrite be v | irqCauseWrite be v | irqEnableWrite be v
  | cmdStatusWrite be v | recPop be v | counterClear _ be v => exact .of_next h (opened.busWrite _ be v)
  | registerWrite offset be v => exact .of_next h (opened.windowWrite offset be v)
  | arrayCellFault phys word bits =>
    simp only [exec, execArrayCellFault] at h
    split at h
    · exact .of_next h (same _ (by constructor <;> simp))
    · cases h
  | resetRelease | fillWriteIssue | fillWriteComplete => exact .of_next h (same _ (by constructor <;> simp))

/-- Settles O53: what is due and the command of a step keep every collection within its size. -/
theorem everyStepKeepsSizes : Obligations.EveryStepKeepsSizes := by
  intro s t fits h
  have sized := s.fits_iff.1 fits
  refine t.fits_iff.2 ?_
  unfold step at h
  split at h
  · exact .of_next h sized.opened
  next c rest _ => exact exec_sized c (s.setPending rest) t (sized.noLarger (by constructor <;> simp)) h

end Sys2Proof.Machine
end

section
/-!
PROOFS. The Open-Line Table as chains (R66, R67): what a grant, a removal and a change of one entry make of the chains of
the lines, and of the operations outstanding for each slot (R9, R65).
-/

namespace Sys2Proof.Machine

/-! ## Chains of slots -/

/-- A chain looks at what its own slots wait on. -/
theorem chainLinked_congr {w w' : Nat → Option Nat} (b : Option Nat) (ks : List Nat) (same : ∀ k ∈ ks, w' k = w k) :
    chainLinked w' b ks = chainLinked w b ks := by
  induction ks generalizing b with
  | nil => rfl
  | cons k ks ih =>
    simp only [List.forall_mem_cons] at same
    simp only [chainLinked, same.1, ih (some k) same.2]

/-- A chain grows by a slot that waits on its last one. -/
theorem chainLinked_append (w : Nat → Option Nat) (b : Option Nat) (ks : List Nat) (k : Nat) :
    chainLinked w b (ks ++ [k]) = (chainLinked w b ks && decide (w k = ks.getLast?.or b)) := by
  induction ks generalizing b with
  | nil => simp [chainLinked, eq_comm]
  | cons j js ih =>
    have last : (j :: js).getLast?.or b = js.getLast?.or (some j) := by
      cases js with
      | nil => rfl
      | cons i is => simp [List.getLast?_cons]
    rw [List.cons_append, chainLinked, ih, chainLinked, last, Bool.and_assoc]

/-- What the slots wait on after slot k has left: its waiter waits on what it waited on (R67). -/
def handed (w : Nat → Option Nat) (k : Nat) (j : Nat) : Option Nat := if w j = some k then w k else w j

/-- In a chain without slot k no slot waits on k. -/
theorem chainLinked_handed (w : Nat → Option Nat) (k : Nat) (b : Option Nat) (ks : List Nat) (other : b ≠ some k)
    (absent : k ∉ ks) (linked : chainLinked w b ks = true) : chainLinked (handed w k) b ks = true := by
  induction ks generalizing b with
  | nil => rfl
  | cons j js ih =>
    simp only [List.mem_cons, not_or] at absent
    simp only [chainLinked, Bool.and_eq_true, decide_eq_true_eq] at linked ⊢
    obtain ⟨rfl, linked⟩ := linked
    exact ⟨if_neg other, ih (some j) (by simpa using Ne.symm absent.1) absent.2 linked⟩

/-- A chain closes over the gap where a slot leaves (R67). -/
theorem chainLinked_leave (w : Nat → Option Nat) (k : Nat) (b : Option Nat) (ks : List Nat) (other : b ≠ some k)
    (once : ks.Nodup) (linked : chainLinked w b ks = true) :
    chainLinked (handed w k) b (ks.filter (fun j => j ≠ k)) = true := by
  induction ks generalizing b with
  | nil => rfl
  | cons j js ih =>
    obtain ⟨absent, once⟩ := List.nodup_cons.1 once
    simp only [chainLinked, Bool.and_eq_true, decide_eq_true_eq] at linked
    obtain ⟨rfl, linked⟩ := linked
    by_cases here : j = k
    · subst here
      have stays : (j :: js).filter (fun i => i ≠ j) = js := by
        rw [List.filter_cons_of_neg (by simp), List.filter_eq_self]
        exact fun i mem => by simpa using fun e : i = j => absent (e ▸ mem)
      rw [stays]
      cases js with
      | nil => rfl
      | cons i is =>
        simp only [List.mem_cons, not_or] at absent
        simp only [chainLinked, Bool.and_eq_true, decide_eq_true_eq] at linked ⊢
        exact ⟨if_pos linked.1, chainLinked_handed w j (some i) is (by simpa using Ne.symm absent.1) absent.2 linked.2⟩
    · have stays : (j :: js).filter (fun i => i ≠ k) = j :: js.filter (fun i => i ≠ k) :=
        List.filter_cons_of_pos (by simpa using here)
      rw [stays]
      simp only [chainLinked, Bool.and_eq_true, decide_eq_true_eq]
      exact ⟨if_neg other, ih (some j) (by simpa using here) once linked⟩

/-! ## The table as chains -/

/-- The slot that is waited on, if it is a slot. -/
def WaitsOn.slot : WaitsOn → Option Nat
  | .entry m => some m
  | .copyHold => none
  | .turn => none

/-- What an entry waits on, if it waits on an older entry. -/
def OpenEntry.waits (e : OpenEntry) : Option Nat :=
  match e.state with
  | .blocked w => w.slot
  | .reading => none
  | .writing => none
  | .writeback => none

theorem OpenEntry.waits_eq_some (e : OpenEntry) (k : Nat) : e.waits = some k ↔ e.state = .blocked (.entry k) := by
  unfold OpenEntry.waits
  cases e.state with
  | blocked w => cases w <;> simp [WaitsOn.slot]
  | _ => simp

theorem OpenEntry.handOver_slot (e : OpenEntry) : e.handOver.slot = e.waits := by
  unfold OpenEntry.handOver OpenEntry.waits
  cases e.state with
  | blocked w => cases w <;> rfl
  | _ => rfl

theorem State.waitsFor_eq (s : State) (k : Nat) : s.waitsFor k = (s.entryAt k).bind OpenEntry.waits := by
  unfold State.waitsFor
  cases s.entryAt k with
  | none => rfl
  | some e =>
    simp only [Option.bind_some, OpenEntry.waits]
    cases e.state with
    | blocked w => cases w <;> rfl
    | _ => rfl

theorem State.slotOfLine_eq (s : State) (line k : Nat) :
    s.slotOfLine line k = decide ((s.entryAt k).map OpenEntry.line = some line) := by
  unfold State.slotOfLine
  cases s.entryAt k <;> simp

theorem State.opsDue_eq (s : State) (k : Nat) : s.opsDue k = ((s.entryAt k).map (fun e => e.atArray.toNat)).getD 0 := by
  unfold State.opsDue
  cases s.entryAt k <;> rfl

/-- A retargeted entry keeps its line and stays in its place; it waits on `w` if it waited on slot k (R67). -/
theorem retarget_some (k : Nat) (w : WaitsOn) (e : OpenEntry) :
    ∃ f, retarget k w (some e) = some f ∧ f.line = e.line ∧ f.atArray = e.atArray ∧
      f.waits = if e.waits = some k then w.slot else e.waits := by
  refine ⟨_, rfl, ?_⟩
  simp only [OpenEntry.waits_eq_some]
  split
  next waiting => exact ⟨rfl, by simp [OpenEntry.atArray, waiting], rfl⟩
  next => exact ⟨rfl, rfl, rfl⟩

/-- An entry freed from the hold keeps its line and stays in its place (R53). -/
theorem releaseHold_some (e : OpenEntry) :
    ∃ f, releaseHold (some e) = some f ∧ f.line = e.line ∧ f.atArray = e.atArray ∧ f.waits = e.waits := by
  refine ⟨_, rfl, ?_⟩
  split
  next held => exact ⟨rfl, by simp [OpenEntry.atArray, held], by simp [OpenEntry.waits, held, WaitsOn.slot]⟩
  next => exact ⟨rfl, rfl, rfl⟩

/-- The grant order lists the occupied slots once, and the entries of each line wait in that order (R66, R67). -/
structure State.Chained (s : State) : Prop where
  slots : s.olt.slots.length = 8
  once : s.olt.order.Nodup
  listed : ∀ k, k ∈ s.olt.order ↔ (s.entryAt k).isSome = true
  linked : ∀ line, chainLinked s.waitsFor none (s.chain line) = true

/-- The table in grant order, with one operation outstanding for each entry at the array (R65). -/
structure State.Orderly (s : State) : Prop where
  chained : s.Chained
  matched : ∀ k < 8, s.opsOf k = s.opsDue k

theorem State.openSound_iff (s : State) : s.openSound ↔ s.Orderly := by
  constructor
  · rintro ⟨slots, once, occupied, listed, linked, matched⟩
    refine ⟨⟨slots, once, fun k => ⟨occupied k, fun some => ?_⟩, fun line => ?_⟩, matched⟩
    · obtain ⟨e, found⟩ := Option.isSome_iff_exists.1 some
      exact listed k (slots ▸ s.entryAt_lt k e found) some
    · cases members : s.chain line with
      | nil => rfl
      | cons k ks =>
        have mem : k ∈ s.chain line := by simp [members]
        obtain ⟨inOrder, ofLine⟩ := List.mem_filter.1 mem
        obtain ⟨e, found⟩ := Option.isSome_iff_exists.1 (occupied k inOrder)
        have same : e.line = line := by simpa [s.slotOfLine_eq, found] using ofLine
        rw [← members, ← same]
        exact linked k inOrder e found
  · rintro ⟨⟨slots, once, listed, linked⟩, matched⟩
    exact ⟨slots, once, fun k => (listed k).1, fun k _ => (listed k).2, fun _ _ e _ => linked e.line, matched⟩

/-- A change under which every entry keeps its slot, its line and what it waits on keeps the chains. -/
theorem State.Chained.keep {s t : State} (h : s.Chained) (slots : t.olt.slots.length = s.olt.slots.length)
    (order : t.olt.order = s.olt.order) (lines : ∀ k, (t.entryAt k).map OpenEntry.line = (s.entryAt k).map OpenEntry.line)
    (waits : ∀ k, t.waitsFor k = s.waitsFor k) : t.Chained := by
  have chains (line : Nat) : t.chain line = s.chain line := by
    unfold State.chain
    rw [order]
    exact List.filter_congr fun k _ => by rw [t.slotOfLine_eq, s.slotOfLine_eq, lines]
  have occupied (k : Nat) : (t.entryAt k).isSome = (s.entryAt k).isSome := by
    simpa using congrArg Option.isSome (lines k)
  refine ⟨slots.trans h.slots, order ▸ h.once, fun k => ?_, fun line => ?_⟩
  · rw [order, occupied]
    exact h.listed k
  · rw [chains, chainLinked_congr none _ fun k _ => waits k]
    exact h.linked line

/-- The waiter of a removed entry takes over its wait (R67). -/
theorem State.waitsFor_removeEntry (s : State) (k : Nat) (e : OpenEntry) (found : s.entryAt k = some e) (j : Nat)
    (other : j ≠ k) : (s.removeEntry k).waitsFor j = handed s.waitsFor k j := by
  unfold handed
  rw [State.waitsFor_eq, s.entryAt_removeEntry k j e found, if_neg other, s.waitsFor_eq j, s.waitsFor_eq k, found]
  cases s.entryAt j with
  | none => rfl
  | some x =>
    obtain ⟨f, retargeted, -, -, waits⟩ := retarget_some k e.handOver x
    rw [retargeted, Option.bind_some, Option.bind_some, Option.bind_some, waits, e.handOver_slot]

/-- Every other entry keeps its line and its operations when one leaves. -/
theorem State.removeEntry_others (s : State) (k j : Nat) (other : j ≠ k) :
    ((s.removeEntry k).entryAt j).map OpenEntry.line = (s.entryAt j).map OpenEntry.line ∧
    (s.removeEntry k).opsDue j = s.opsDue j := by
  cases found : s.entryAt k with
  | none => simp [State.removeEntry, found]
  | some e =>
    rw [State.opsDue_eq, State.opsDue_eq, s.entryAt_removeEntry k j e found, if_neg other]
    cases s.entryAt j with
    | none => exact ⟨rfl, rfl⟩
    | some x =>
      obtain ⟨f, retargeted, line, atArray, -⟩ := retarget_some k e.handOver x
      simp [retargeted, line, atArray]

theorem State.removeEntry_opsDue (s : State) (k : Nat) : (s.removeEntry k).opsDue k = 0 := by
  cases found : s.entryAt k with
  | none => simp [State.removeEntry, found, State.opsDue_eq]
  | some e => simp [State.opsDue_eq, s.entryAt_removeEntry k k e found]

/-- An entry leaves, and the chain of its line closes over the gap (R67). -/
theorem State.Chained.leave {s : State} (h : s.Chained) (k : Nat) : (s.removeEntry k).Chained := by
  cases found : s.entryAt k with
  | none => simpa [State.removeEntry, found] using h
  | some e =>
    have order := (s.removeEntry_shape k).2 (by simp [found])
    have gone : (s.removeEntry k).entryAt k = none := by simp [s.entryAt_removeEntry k k e found]
    refine ⟨(s.removeEntry_slots k).trans h.slots, order ▸ h.once.filter _, fun j => ?_, fun line => ?_⟩
    · rw [order, List.mem_filter, h.listed]
      by_cases here : j = k
      · simp [here, gone]
      · have same := congrArg Option.isSome (s.removeEntry_others k j here).1
        simp only [Option.isSome_map] at same
        simp [here, same]
    · have chain : (s.removeEntry k).chain line = (s.chain line).filter (fun j => j ≠ k) := by
        unfold State.chain
        rw [order, List.filter_filter, List.filter_filter]
        refine List.filter_congr fun j _ => ?_
        by_cases here : j = k
        · simp [here]
        · rw [State.slotOfLine_eq, State.slotOfLine_eq, (s.removeEntry_others k j here).1, Bool.and_comm]
      have waits : ∀ j ∈ (s.chain line).filter (fun j => j ≠ k), (s.removeEntry k).waitsFor j = handed s.waitsFor k j :=
        fun j mem => s.waitsFor_removeEntry k e found j (by simpa using (List.mem_filter.1 mem).2)
      rw [chain, chainLinked_congr none _ waits]
      exact chainLinked_leave _ k none _ (by simp) (h.once.filter _) (h.linked line)

/-- The entry that a grant makes waits on the newest one of its line (R66). -/
def State.grantedEntry (s : State) (work : Work) (line : Nat) (cls : CheckClass) : OpenEntry :=
  { work := work, line := line, cls := cls, place := none, result := none,
    state := .blocked (match s.newestOf line with | some m => .entry m | none => .turn) }

theorem State.grantedEntry_waits (s : State) (work : Work) (line : Nat) (cls : CheckClass) :
    (s.grantedEntry work line cls).waits = s.newestOf line := by
  simp only [State.grantedEntry, OpenEntry.waits]
  cases s.newestOf line <;> rfl

theorem State.entryAt_createEntry (s : State) (work : Work) (line : Nat) (cls : CheckClass) (k j : Nat)
    (slot : s.emptySlot = some k) :
    (s.createEntry work line cls).entryAt j = if j = k then some (s.grantedEntry work line cls) else s.entryAt j := by
  rw [s.createEntry_eq k work line cls slot]
  exact s.entryAt_putOpen k j _ (s.emptySlot_some k slot).1

/-- A grant puts an entry behind the newest one of its line (R66). -/
theorem State.Chained.grant {s : State} (h : s.Chained) (work : Work) (line : Nat) (cls : CheckClass) :
    (s.createEntry work line cls).Chained := by
  cases slot : s.emptySlot with
  | none => simpa [State.createEntry, slot] using h
  | some k =>
    obtain ⟨-, empty, -⟩ := s.emptySlot_some k slot
    have absent : k ∉ s.olt.order := fun mem => by simpa [empty] using (h.listed k).1 mem
    have order : (s.createEntry work line cls).olt.order = s.olt.order ++ [k] := by
      rw [s.createEntry_eq k work line cls slot]
      rfl
    have entry (j : Nat) := s.entryAt_createEntry work line cls k j slot
    refine ⟨(s.createEntry_slots work line cls).trans h.slots, ?_, fun j => ?_, fun l => ?_⟩
    · rw [order, List.nodup_append_comm]
      exact List.nodup_cons.2 ⟨absent, h.once⟩
    · rw [order, List.mem_append, h.listed, entry]
      by_cases here : j = k <;> simp [here]
    · have before : ∀ j ∈ s.olt.order, (s.createEntry work line cls).entryAt j = s.entryAt j := fun j mem => by
        rw [entry, if_neg fun here : j = k => absent (here ▸ mem)]
      have chain : (s.createEntry work line cls).chain l = s.chain l ++ if line = l then [k] else [] := by
        have older : s.olt.order.filter ((s.createEntry work line cls).slotOfLine l) = s.chain l :=
          List.filter_congr fun j mem => by rw [State.slotOfLine_eq, State.slotOfLine_eq, before j mem]
        have newest : (s.createEntry work line cls).slotOfLine l k = decide (line = l) := by
          simp [State.slotOfLine_eq, entry, State.grantedEntry]
        rw [State.chain, order, List.filter_append, older]
        by_cases same : line = l
        · rw [if_pos same, List.filter_singleton, newest, decide_eq_true same, cond_true]
        · rw [if_neg same, List.filter_singleton, newest, decide_eq_false same, cond_false]
      have waits : ∀ j ∈ s.chain l, (s.createEntry work line cls).waitsFor j = s.waitsFor j := fun j mem => by
        rw [State.waitsFor_eq, State.waitsFor_eq, before j (List.mem_filter.1 mem).1]
      have older : chainLinked (s.createEntry work line cls).waitsFor none (s.chain l) = true := by
        rw [chainLinked_congr none _ waits]
        exact h.linked l
      rw [chain]
      split
      next same =>
        subst same
        rw [chainLinked_append, older, State.waitsFor_eq, entry, if_pos rfl, Option.bind_some, s.grantedEntry_waits]
        simp [State.newestOf, State.chain]
      next => rw [List.append_nil, older]

/-! ## Operations outstanding for a slot (R9, R65) -/

theorem State.opsOf_of_ops {s t : State} (ops : t.aif.ops = s.aif.ops) (k : Nat) : t.opsOf k = s.opsOf k := by
  rw [State.opsOf, State.opsOf, ops]

/-- An operation issued for a slot is outstanding for it (R9). -/
theorem State.opsOf_issue {s t : State} (op : ArrayOp) (ops : t.aif.ops = s.aif.ops ++ [op]) (k : Nat) :
    t.opsOf k = s.opsOf k + if op.issuer = .engine k then 1 else 0 := by
  simp [State.opsOf, ops, List.countP_append, List.countP_singleton]

/-- A completion takes its own operation off, and no other (R9, R12). -/
theorem State.opsOf_finishOp (s : State) (op : ArrayOp) (head : s.headOp op.phys = some op) (k : Nat) :
    (s.finishOp op).opsOf k + (if op.issuer = .engine k then 1 else 0) = s.opsOf k := by
  obtain ⟨here, before, after, ops, others⟩ := List.find?_eq_some_iff_append.1 head
  have erased : s.aif.ops.eraseP (fun o => o.phys == op.phys) = before ++ after := by
    rw [ops, List.eraseP_append_right _ (by simpa using others), List.eraseP_cons_of_pos (p := fun o : ArrayOp => o.phys == op.phys) here]
  rw [State.opsOf, State.opsOf, State.finishOp_ops, erased, ops]
  simp [List.countP_append, List.countP_cons]
  omega

/-- The chains are a matter of the table alone. -/
theorem State.Chained.same {s t : State} (h : s.Chained) (olt : t.olt = s.olt) : t.Chained := by
  have entry (k : Nat) : t.entryAt k = s.entryAt k := by rw [State.entryAt, State.entryAt, olt]
  exact h.keep (by rw [olt]) (by rw [olt]) (fun k => by rw [entry]) fun k => by
    rw [State.waitsFor_eq, State.waitsFor_eq, entry]

theorem State.opsDue_of_olt {s t : State} (olt : t.olt = s.olt) (k : Nat) : t.opsDue k = s.opsDue k := by
  rw [State.opsDue, State.opsDue, State.entryAt, State.entryAt, olt]

theorem State.Orderly.same {s t : State} (h : s.Orderly) (olt : t.olt = s.olt) (ops : ∀ k, t.opsOf k = s.opsOf k) :
    t.Orderly :=
  ⟨h.chained.same olt, fun k inside => by rw [ops, State.opsDue_of_olt olt, h.matched k inside]⟩

/-- The table is sound but for slot k, for which n operations are outstanding. -/
structure State.OrderlyBut (s : State) (k n : Nat) : Prop where
  chained : s.Chained
  here : s.opsOf k = n
  others : ∀ j < 8, j ≠ k → s.opsOf j = s.opsDue j

/-- An entry in BLOCKED, or none, has no operation outstanding (R65). -/
theorem State.Orderly.but {s : State} (h : s.Orderly) (k : Nat) (slot : k < 8) (due : s.opsDue k = 0) :
    s.OrderlyBut k 0 :=
  ⟨h.chained, (h.matched k slot).trans due, fun j inside _ => h.matched j inside⟩

theorem State.Orderly.lt {s : State} (h : s.Orderly) {k : Nat} {e : OpenEntry} (found : s.entryAt k = some e) : k < 8 :=
  h.chained.slots ▸ s.entryAt_lt k e found

/-- When the operation of an entry completes, none is outstanding for it (R9, R65). -/
theorem State.Orderly.completed {s : State} (h : s.Orderly) {k : Nat} {e : OpenEntry} {op : ArrayOp}
    (entry : s.entryOp k = some (e, op)) : (s.finishOp op).OrderlyBut k 0 := by
  obtain ⟨found, issuer, -, head⟩ := s.entryOp_spec k e op entry
  have inside := h.lt found
  have one : s.opsOf k ≤ 1 := by
    rw [h.matched k inside, s.opsDue_eq, found]
    exact Bool.toNat_le _
  refine ⟨h.chained.same rfl, ?_, fun j below other => ?_⟩
  · have ops := s.opsOf_finishOp op head k
    rw [if_pos issuer] at ops
    omega
  · have ops := s.opsOf_finishOp op head j
    rw [if_neg (by simpa [issuer] using Ne.symm other), Nat.add_zero] at ops
    rw [ops, h.matched j below]
    exact (State.opsDue_of_olt rfl j).symm

/-- An operation that is not the engine's completes: the table does not see it. -/
theorem State.Orderly.finish {s : State} (h : s.Orderly) (op : ArrayOp) (head : s.headOp op.phys = some op)
    (issuer : ∀ k, op.issuer ≠ .engine k) : (s.finishOp op).Orderly :=
  h.same rfl fun k => by simpa [issuer k] using s.opsOf_finishOp op head k

theorem State.OrderlyBut.same {s t : State} {k n : Nat} (h : s.OrderlyBut k n) (olt : t.olt = s.olt)
    (ops : t.aif.ops = s.aif.ops) : t.OrderlyBut k n :=
  ⟨h.chained.same olt, (State.opsOf_of_ops ops k).trans h.here, fun j inside other => by
    rw [State.opsOf_of_ops ops, State.opsDue_of_olt olt, h.others j inside other]⟩

/-- An operation is issued for the slot. -/
theorem State.OrderlyBut.issue {s t : State} {k n : Nat} (h : s.OrderlyBut k n) (op : ArrayOp)
    (olt : t.olt = s.olt) (ops : t.aif.ops = s.aif.ops ++ [op]) (issuer : op.issuer = .engine k) :
    t.OrderlyBut k (n + 1) := by
  refine ⟨h.chained.same olt, ?_, fun j inside other => ?_⟩
  · rw [State.opsOf_issue op ops, if_pos issuer, h.here]
  · rw [State.opsOf_issue op ops, if_neg (by simpa [issuer] using Ne.symm other), Nat.add_zero,
      State.opsDue_of_olt olt, h.others j inside other]

/-- The entry of the slot leaves with no operation outstanding (R67). -/
theorem State.OrderlyBut.leave {s : State} {k : Nat} (h : s.OrderlyBut k 0) : (s.removeEntry k).Orderly := by
  have ops (j : Nat) : (s.removeEntry k).opsOf j = s.opsOf j := State.opsOf_of_ops (by simp) j
  refine ⟨h.chained.leave k, fun j inside => ?_⟩
  rw [ops]
  by_cases here : j = k
  · rw [here, h.here, s.removeEntry_opsDue]
  · rw [(s.removeEntry_others k j here).2, h.others j inside here]

/-- An entry of the same line that waits on the same takes the place of the slot's, with its operations. -/
theorem State.OrderlyBut.stay {s : State} {k : Nat} {e x : OpenEntry} (h : s.OrderlyBut k e.atArray.toNat)
    (found : s.entryAt k = some x) (line : e.line = x.line) (waits : e.waits = x.waits) : (s.putOpen k e).Orderly := by
  have entry (j : Nat) := s.entryAt_putOpen k j e (s.entryAt_lt k x found)
  have ops (j : Nat) : (s.putOpen k e).opsOf j = s.opsOf j := State.opsOf_of_ops (by simp) j
  refine ⟨h.chained.keep (s.putOpen_shape k e).2 (s.putOpen_shape k e).1 (fun j => ?_) fun j => ?_, fun j inside => ?_⟩
  · rw [entry]
    split
    next here => simp [here, found, line]
    next => rfl
  · rw [State.waitsFor_eq, State.waitsFor_eq, entry]
    split
    next here => simp [here, found, waits]
    next => rfl
  · rw [ops, State.opsDue_eq, entry]
    split
    next here => simp [here, h.here]
    next other => rw [← State.opsDue_eq, h.others j inside other]

/-- A grant makes an entry without an operation (R65, R66). -/
theorem State.Orderly.grant {s : State} (h : s.Orderly) (work : Work) (line : Nat) (cls : CheckClass) :
    (s.createEntry work line cls).Orderly := by
  refine ⟨h.chained.grant work line cls, fun j inside => ?_⟩
  have ops : (s.createEntry work line cls).opsOf j = s.opsOf j := State.opsOf_of_ops (by simp) j
  rw [ops, h.matched j inside]
  cases slot : s.emptySlot with
  | none => simp [State.createEntry, slot]
  | some k =>
    rw [State.opsDue_eq, State.opsDue_eq, s.entryAt_createEntry work line cls k j slot]
    split
    next here =>
      rw [here, (s.emptySlot_some k slot).2.1]
      rfl
    next => rfl

/-- The end of an item frees the entry on the hold (R53). -/
theorem State.Orderly.endItem {s : State} (h : s.Orderly) (i : RetireItem) (r : CmdResult) :
    (s.endItem i r).Orderly := by
  have slots : (s.endItem i r).olt = { s.olt with slots := s.olt.slots.map releaseHold } := by simp [State.endItem]
  have entry (k : Nat) : (s.endItem i r).entryAt k = releaseHold (s.entryAt k) := by
    simp only [State.entryAt, slots, List.getD_eq_getElem?_getD, List.getElem?_map]
    cases s.olt.slots[k]? <;> rfl
  have ops (k : Nat) : (s.endItem i r).opsOf k = s.opsOf k := State.opsOf_of_ops (by simp) k
  refine ⟨h.chained.keep (s.endItem_slots i r) (by rw [slots]) (fun k => ?_) fun k => ?_, fun k inside => ?_⟩
  · rw [entry]
    cases s.entryAt k with
    | none => rfl
    | some e =>
      obtain ⟨f, freed, line, -, -⟩ := releaseHold_some e
      simp [freed, line]
  · rw [State.waitsFor_eq, State.waitsFor_eq, entry]
    cases s.entryAt k with
    | none => rfl
    | some e =>
      obtain ⟨f, freed, -, -, waits⟩ := releaseHold_some e
      simp [freed, waits]
  · rw [ops, h.matched k inside, State.opsDue_eq, State.opsDue_eq, entry]
    cases s.entryAt k with
    | none => rfl
    | some e =>
      obtain ⟨f, freed, -, atArray, -⟩ := releaseHold_some e
      simp [freed, atArray]

end Sys2Proof.Machine
end

section
/-!
PROOFS. Every step keeps the Open-Line Table in grant order with one operation for each entry at the array (R65 to R67):
an entry issues its operation, completes it and leaves, or issues the next one.
-/

namespace Sys2Proof.Machine

/-! ## Changes that the table does not see -/

theorem State.Orderly.quiet {s t : State} (h : s.Orderly) (olt : t.olt = s.olt) (ops : t.aif.ops = s.aif.ops) :
    t.Orderly :=
  h.same olt (State.opsOf_of_ops ops)

/-- The Copy Unit or the Controller issues an operation (R9). -/
theorem State.Orderly.issued {s t : State} (h : s.Orderly) (op : ArrayOp) (olt : t.olt = s.olt)
    (ops : t.aif.ops = s.aif.ops ++ [op]) (issuer : ∀ k, op.issuer ≠ .engine k) : t.Orderly :=
  h.same olt fun k => by rw [State.opsOf_issue op ops, if_neg (issuer k), Nat.add_zero]

theorem State.entryAt_of_olt {s t : State} (olt : t.olt = s.olt) (k : Nat) : t.entryAt k = s.entryAt k := by
  rw [State.entryAt, State.entryAt, olt]

/-- An entry in BLOCKED has no operation outstanding (R65). -/
theorem State.opsDue_blocked (s : State) (k : Nat) (e : OpenEntry) (w : WaitsOn) (found : s.entryAt k = some e)
    (blocked : e.state = .blocked w) : s.opsDue k = 0 := by
  simp [State.opsDue, found, OpenEntry.atArray, blocked]

theorem State.OrderlyBut.issueRead {s : State} {k : Nat} (h : s.OrderlyBut k 0) (l : Loc) (line : Nat) (decoded : Bool) :
    (s.issueRead l line decoded (.engine k)).OrderlyBut k 1 :=
  h.issue (s.readOp l line decoded (.engine k)) rfl rfl rfl

theorem State.OrderlyBut.issueWrite {s : State} {k : Nat} (h : s.OrderlyBut k 0) (l : Loc) (line : Nat)
    (d : LineData) : (s.issueWrite l line d (.engine k)).OrderlyBut k 1 :=
  h.issue (s.writeOp l line d (.engine k)) rfl (by rw [State.issueWrite_eq]; rfl) rfl

theorem State.OrderlyBut.issuePoison {s : State} {k : Nat} (h : s.OrderlyBut k 0) (l : Loc) (line : Nat) :
    (s.issuePoison l line (.engine k)).OrderlyBut k 1 :=
  h.issue (s.poisonOp l line (.engine k)) rfl rfl rfl

/-- The entry leaves after changes that the table does not see. -/
theorem State.OrderlyBut.quit {s t : State} {k : Nat} (h : s.OrderlyBut k 0) (olt : t.olt = s.olt)
    (ops : t.aif.ops = s.aif.ops) : (t.removeEntry k).Orderly :=
  (h.same olt ops).leave

/-! ## The Copy Unit's work on an item (R41 to R54) -/

theorem State.Orderly.issueTarget {s : State} (h : s.Orderly) : s.issueTarget.Orderly := by
  unfold State.issueTarget
  split
  · exact h
  next i _ =>
    split
    · exact h.issued (s.poisonOp (s.copyDest i.line) i.line (.copyUnit s.copy.itemNo)) rfl rfl (by simp [State.poisonOp])
    · exact h.issued (s.writeOp (s.copyDest i.line) i.line s.copy.buffer.data (.copyUnit s.copy.itemNo)) rfl
        (by simp [State.issueWrite_eq]) (by simp [State.writeOp])

theorem State.Orderly.issueVerify {s : State} (h : s.Orderly) : s.issueVerify.Orderly := by
  unfold State.issueVerify
  split
  · exact h
  next i _ =>
    exact h.issued (s.readOp (s.copyDest i.line) i.line true (.copyUnit s.copy.itemNo)) rfl rfl (by simp [State.readOp])

theorem State.Orderly.commit {s : State} (h : s.Orderly) (i : RetireItem) : (s.commit i).Orderly := by
  unfold State.commit
  dsimp only
  split
  · exact State.Orderly.endItem (h.quiet (by simp) (by simp)) i .done
  · exact State.Orderly.endItem (h.quiet (by simp) (by simp)) i .done

theorem State.Orderly.verifyFailed {s : State} (h : s.Orderly) (i : RetireItem) : (s.verifyFailed i).Orderly := by
  unfold State.verifyFailed
  split
  · unfold State.moveVerifyFailed
    dsimp only
    split
    · split
      · exact State.Orderly.issueTarget (h.quiet (by simp) (by simp))
      · exact State.Orderly.endItem (h.quiet (by simp) (by simp)) i .noSpare
    · exact State.Orderly.endItem (h.quiet (by simp) (by simp)) i .failed
  · exact State.Orderly.endItem (h.quiet (by simp) (by simp)) i .failed

theorem State.Orderly.verifyGood {s : State} (h : s.Orderly) (i : RetireItem) : (s.verifyGood i).Orderly := by
  unfold State.verifyGood
  split
  · split <;> exact State.Orderly.issueTarget (h.quiet rfl rfl)
  · exact h.commit i

theorem State.Orderly.copyHalt {s : State} (h : s.Orderly) : s.copyHalt.Orderly := by
  unfold State.copyHalt
  split
  · exact h
  · exact State.Orderly.endItem (h.quiet (by simp) (by simp)) _ .aborted

/-! ## Entry to HALTED (R180) -/

/-- Entries without an operation leave one after another, and the chains close over the gaps (R67, R180). -/
theorem State.Orderly.removeEntries (ks : List Nat) {s : State} (h : s.Orderly)
    (idle : ∀ k ∈ ks, k < 8 ∧ s.opsDue k = 0) : (removeEntries ks s).Orderly := by
  induction ks generalizing s with
  | nil => exact h
  | cons k ks ih =>
    simp only [List.forall_mem_cons] at idle
    refine ih (h.but k idle.1.1 idle.1.2).leave fun j mem => ⟨(idle.2 j mem).1, ?_⟩
    by_cases here : j = k
    · rw [here, s.removeEntry_opsDue]
    · rw [(s.removeEntry_others k j here).2, (idle.2 j mem).2]

/-- The entries that a halt removes are BLOCKED (R180). -/
theorem State.Orderly.haltTable {s : State} (h : s.Orderly) : s.haltTable.Orderly := by
  refine State.Orderly.removeEntries _ h fun k mem => ?_
  have removes := (List.mem_filter.1 mem).2
  unfold State.haltRemovesSlot at removes
  cases found : s.entryAt k with
  | none => simp [found] at removes
  | some e =>
    simp only [found, e.haltRemoves_eq, Bool.and_eq_true, Bool.not_eq_true'] at removes
    exact ⟨h.lt found, by simp [State.opsDue, found, removes.1]⟩

theorem State.Orderly.haltWork {s : State} (h : s.Orderly) :
    s.haltPorts.haltTable.copyHalt.patrolHalt.haltRtq.haltStop.Orderly := by
  have ports : s.haltPorts.Orderly := h.quiet (by simp) (by simp)
  exact ports.haltTable.copyHalt.quiet (by simp) (by simp)

theorem State.Orderly.haltOnUe {s : State} (h : s.Orderly) (line : Nat) : (s.haltOnUe line).Orderly := by
  unfold State.haltOnUe
  split
  · exact State.Orderly.haltWork (h.quiet (by simp) (by simp))
  · exact h

/-! ## Issue (R68) -/

theorem State.slotDue_spec (s : State) (k : Nat) (due : s.slotDue k = true) :
    ∃ e, s.entryAt k = some e ∧ e.state = .blocked .turn := by
  unfold State.slotDue at due
  split at due
  next e found =>
    simp only [OpenEntry.issueDue, Bool.and_eq_true, decide_eq_true_eq] at due
    exact ⟨e, found, due.1⟩
  next => cases due

/-- An entry whose turn has come issues its operation, leaves, or waits on the hold (R68, R69). -/
theorem State.Orderly.issueEntry {s : State} (h : s.Orderly) (k : Nat) (due : s.slotDue k = true) :
    (s.issueEntry k).Orderly := by
  obtain ⟨e, found, turn⟩ := s.slotDue_spec k due
  have idle := h.but k (h.lt found) (s.opsDue_blocked k e .turn found turn)
  have waits : e.waits = none := by simp [OpenEntry.waits, turn, WaitsOn.slot]
  have reads (l : Loc) (decoded : Bool) : (s.issueEntryRead k e l decoded).Orderly :=
    (idle.issueRead l e.line decoded).stay found rfl waits.symm
  unfold State.issueEntry
  simp only [found]
  split
  · split
    · exact idle.leave.quiet (by simp [State.patrolSkip]) (by simp [State.patrolSkip])
    · exact reads _ _
  · exact reads _ _
  · split
    · exact reads _ _
    · unfold State.serveRead
      dsimp only
      split
      · exact idle.quit (by simp) (by simp)
      · exact idle.quit (by simp) (by simp)
  next mask data _ =>
    split
    · unfold State.issueArrayWrite
      split
      · exact (idle.issueWrite _ _ _).stay found rfl waits.symm
      · exact reads _ _
    · unfold State.issueBufferWrite
      split
      · exact State.OrderlyBut.stay idle found rfl waits.symm
      · split
        · exact idle.quit (by simp) (by simp)
        · unfold State.mergeWrite
          refine State.OrderlyBut.stay (x := e) (State.OrderlyBut.issueWrite ?_ _ _ _) found rfl waits.symm
          exact idle.same rfl rfl

theorem issueDue_orderly (n : Nat) {s : State} (h : s.Orderly) : (issueDue n s).Orderly := by
  induction n generalizing s with
  | zero => exact h
  | succ n ih =>
    simp only [issueDue]
    split
    · exact h
    next k slot => exact ih (h.issueEntry k (List.find?_some slot))

theorem State.Orderly.settleIssues {s : State} (h : s.Orderly) : s.settleIssues.Orderly := issueDue_orderly _ h

theorem State.Orderly.newStep {s : State} (h : s.Orderly) : s.newStep.Orderly := h.quiet rfl rfl

/-- Item starts and the ends of fills, drains and STOPs do not touch the table. -/
theorem State.Orderly.opened {s : State} (h : s.Orderly) : s.opened.Orderly :=
  h.newStep.settleIssues.quiet (by simp [State.opened, State.settle]) (by simp [State.opened, State.settle])

/-! ## Completions (R70 to R81) -/

theorem State.OrderlyBut.readDecoded {s : State} {k : Nat} {e : OpenEntry} (h : s.OrderlyBut k 0)
    (found : s.entryAt k = some e) (reading : e.state = .reading) (p : PortId) (t : Tag) (r : LineRead) :
    (s.readDecoded k e p t r).Orderly := by
  have waits : e.waits = none := by simp [OpenEntry.waits, reading]
  unfold State.readDecoded
  split
  · exact h.quit (by simp) (by simp)
  · unfold State.readCorrected
    dsimp only
    split
    · refine (State.OrderlyBut.issueWrite (h.same (by simp) (by simp)) _ _ _).stay (x := e) ?_ rfl waits.symm
      exact (State.entryAt_of_olt (by simp) k).trans found
    · exact h.quit (by simp) (by simp)
  · exact State.Orderly.haltOnUe (h.quit (by simp) (by simp)) _
  · exact h.quit (by simp) (by simp)

theorem State.Orderly.demandReadDone {s : State} (h : s.Orderly) (k : Nat) : (s.demandReadDone k).Orderly := by
  unfold State.demandReadDone
  split
  · exact h
  next e op entry =>
    have found := (s.entryOp_spec k e op entry).1
    split
    next reading _ => exact (h.completed entry).readDecoded found reading _ _ _
    next => exact (h.completed entry).quit (by simp) (by simp)
    next => exact h

theorem State.OrderlyBut.writeMerged {s : State} {k : Nat} {e : OpenEntry} (h : s.OrderlyBut k 0)
    (found : s.entryAt k = some e) (reading : e.state = .reading) (mask : ByteMask) (data old : LineData)
    (res : Option EntryResult) : (s.writeMerged k e mask data old res).Orderly :=
  (h.issueWrite _ _ _).stay found rfl (by simp [OpenEntry.waits, reading])

theorem State.OrderlyBut.partialUncorrectable {s : State} {k : Nat} {e : OpenEntry} (h : s.OrderlyBut k 0)
    (found : s.entryAt k = some e) (reading : e.state = .reading) (p : PortId) (r : LineRead) :
    (s.partialUncorrectable k e p r).Orderly := by
  let poisoning : OpenEntry :=
    { e with state := .writing, result := some { outcome := r.outcome, corrected := r.corrected } }
  have poisons : ((s.issuePoison e.loc e.line (.engine k)).putOpen k poisoning).Orderly :=
    (h.issuePoison e.loc e.line).stay found rfl (by simp [poisoning, OpenEntry.waits, reading])
  exact poisons.quiet (by simp [State.partialUncorrectable, poisoning]) (by simp [State.partialUncorrectable])

theorem State.Orderly.partialReadDone {s : State} (h : s.Orderly) (k : Nat) : (s.partialReadDone k).Orderly := by
  unfold State.partialReadDone
  split
  · exact h
  next e op entry =>
    have found : (s.finishOp op).entryAt k = some e := (s.entryOp_spec k e op entry).1
    have done := h.completed entry
    split
    next reading _ =>
      unfold State.partialDecoded
      split
      · exact done.writeMerged found reading _ _ _ _
      · refine State.OrderlyBut.writeMerged (done.same (by simp) (by simp)) ?_ reading _ _ _ _
        exact (State.entryAt_of_olt (by simp) k).trans found
      · exact done.partialUncorrectable found reading _ _
      · exact done.quit (by simp) (by simp)
    next reading _ => exact done.writeMerged found reading _ _ _ _
    next => exact h

theorem State.Orderly.demandWriteDone {s : State} (h : s.Orderly) (k : Nat) : (s.demandWriteDone k).Orderly := by
  unfold State.demandWriteDone
  split
  · exact h
  next e op entry =>
    split
    · split
      · exact h
      · exact (h.completed entry).quit (by simp) (by simp)
    · exact h

theorem State.Orderly.poisonWriteDone {s : State} (h : s.Orderly) (k : Nat) : (s.poisonWriteDone k).Orderly := by
  unfold State.poisonWriteDone
  split
  · exact h
  next e op entry =>
    split
    · split
      · exact State.Orderly.haltOnUe ((h.completed entry).quit (by simp) (by simp)) _
      · exact h
    · exact h

theorem State.Orderly.sourceWriteDone {s : State} (h : s.Orderly) (k : Nat) : (s.sourceWriteDone k).Orderly := by
  unfold State.sourceWriteDone
  split
  · exact h
  next e op entry =>
    split
    · split
      · exact (h.completed entry).quit (by simp) (by simp)
      · exact h
    · exact h

theorem State.Orderly.writebackDone {s : State} (h : s.Orderly) (k : Nat) : (s.writebackDone k).Orderly := by
  unfold State.writebackDone
  split
  · exact h
  next e op entry =>
    split
    · exact (h.completed entry).leave
    · exact h

/-- The PATROL entry leaves; what the Patrol Unit does next the table does not see (R114). -/
theorem State.OrderlyBut.endPatrolEntry {s t : State} {k : Nat} (h : s.OrderlyBut k 0) (olt : t.olt = s.olt)
    (ops : t.aif.ops = s.aif.ops) : (t.endPatrolEntry k).Orderly :=
  (h.quit olt ops).quiet (by simp [State.endPatrolEntry]) (by simp [State.endPatrolEntry])

theorem State.Orderly.patrolReadDone {s : State} (h : s.Orderly) (k : Nat) : (s.patrolReadDone k).Orderly := by
  unfold State.patrolReadDone
  split
  · exact h
  next e op entry =>
    have found : (s.finishOp op).entryAt k = some e := (s.entryOp_spec k e op entry).1
    have done := h.completed entry
    split
    next reading _ =>
      have waits : e.waits = none := by simp [OpenEntry.waits, reading]
      unfold State.patrolOutcome
      dsimp only
      split
      · exact done.endPatrolEntry (by simp) (by simp)
      · refine (State.OrderlyBut.issueWrite (done.same (by simp) (by simp)) _ _ _).stay (x := e) ?_ rfl waits.symm
        exact (State.entryAt_of_olt (by simp) k).trans found
      · split
        · refine (State.OrderlyBut.issuePoison (done.same (by simp) (by simp)) _ _).stay (x := e) ?_ rfl waits.symm
          exact (State.entryAt_of_olt (by simp) k).trans found
        · exact done.endPatrolEntry (by simp) (by simp)
      · exact done.endPatrolEntry (by simp) (by simp)
    next => exact h

theorem State.Orderly.scrubWriteDone {s : State} (h : s.Orderly) (k : Nat) : (s.scrubWriteDone k).Orderly := by
  unfold State.scrubWriteDone
  split
  · exact h
  next e op entry =>
    split
    · exact (h.completed entry).endPatrolEntry rfl rfl
    · exact h

/-! ## The Copy Unit's rows (R45 to R56) -/

theorem State.Orderly.afterCopyRead {s : State} {k : Nat} (h : (s.removeEntry k).Orderly) (waiterFirst : Bool) :
    (s.afterCopyRead k waiterFirst).Orderly := by
  unfold State.afterCopyRead
  split
  · exact h.settleIssues.issueTarget
  · exact h.issueTarget

theorem State.Orderly.copyReadDone {s : State} (h : s.Orderly) (k : Nat) (waiterFirst : Bool) :
    (s.copyReadDone k waiterFirst).Orderly := by
  unfold State.copyReadDone
  split
  · exact h
  next e op entry =>
    split
    · split
      · exact State.Orderly.afterCopyRead ((h.completed entry).quit (by simp) (by simp)) waiterFirst
      · exact h
    · split
      · exact State.Orderly.afterCopyRead ((h.completed entry).quit (by simp) (by simp)) waiterFirst
      · exact h
    · exact h

/-- An operation found by a property that no entry's operation has completes. -/
theorem State.Orderly.finishFound {s : State} (h : s.Orderly) {p : ArrayOp → Bool} {op : ArrayOp}
    (found : s.completable p = some op) (issuer : ∀ o k, p o = true → o.issuer ≠ .engine k) : (s.finishOp op).Orderly :=
  have spec := s.completable_spec p op found
  h.finish op spec.2.2 fun k => issuer op k spec.1

theorem State.Orderly.targetWriteDone {s : State} (h : s.Orderly) : s.targetWriteDone.Orderly := by
  unfold State.targetWriteDone
  split
  next op _ found => exact (h.finishFound found (by simp +contextual)).issueVerify
  next => exact h

theorem State.Orderly.verifyDone {s : State} (h : s.Orderly) : s.verifyDone.Orderly := by
  unfold State.verifyDone
  split
  next op _ _ found =>
    have done := h.finishFound found (by simp +contextual)
    unfold State.verifyOutcome
    split
    · exact done.verifyGood _
    · exact done.verifyFailed _
  next => exact h

theorem State.Orderly.lateDone {s : State} (h : s.Orderly) (op : LateOp) : (s.lateDone op).Orderly := by
  cases op with
  | entry k =>
    simp only [State.lateDone, State.lateEntry]
    split
    · exact h
    next e op entry =>
      split
      · split
        · exact h
        · exact (h.completed entry).leave
      · exact h
  | array phys =>
    simp only [State.lateDone, State.lateArray]
    split
    · exact h
    next op head =>
      split
      next n issuer =>
        split
        · exact h
        · have line : op.phys = phys := by simpa using List.find?_some head
          exact h.finish op (line ▸ head) (by simp [issuer])
      all_goals exact h

/-! ## Grants, the fill, commands and resets (R164, R172, R184 to R198) -/

theorem State.Orderly.grantHead {s : State} (h : s.Orderly) (p : PortId) (r : Request) : (s.grantHead p r).Orderly := by
  have refused (st : RespStatus) (d : DenyReason) : (s.refuse p r st d).Orderly := h.quiet (by simp) (by simp)
  unfold State.grantHead
  split
  · exact refused _ _
  · split
    · split
      · exact h.grant _ _ _
      · exact refused _ _
    · split
      · split
        · exact refused _ _
        · split
          · exact h.quiet (by simp) (by simp)
          · exact h.grant _ _ _
      · exact refused _ _

theorem State.Orderly.grantPortHead {s : State} (h : s.Orderly) : s.grantPortHead.Orderly := by
  unfold State.grantPortHead
  split
  · unfold State.grantPort
    split
    · exact h
    · refine State.Orderly.grantHead ?_ _ _
      exact h.quiet rfl rfl
  all_goals exact h

theorem State.Orderly.grantCopyRead {s : State} (h : s.Orderly) : s.grantCopyRead.Orderly := by
  unfold State.grantCopyRead State.grantCopy
  split
  · split
    · exact h
    · exact h.grant _ _ _
  all_goals exact h

theorem State.Orderly.grantPatrolUnit {s : State} (h : s.Orderly) : s.grantPatrolUnit.Orderly := by
  unfold State.grantPatrolUnit State.grantPatrol
  split
  · split
    · exact h
    · split
      · exact (State.Orderly.grant (h.quiet (t := s.clearWait) rfl rfl) .patrol _ .checked).quiet rfl rfl
      · exact h.quiet (by simp) (by simp)
  all_goals exact h

theorem State.Orderly.fillIssue {s : State} (h : s.Orderly) : s.fillIssue.Orderly := by
  unfold State.fillIssue
  split
  · exact h.issued (s.writeOp (s.sourceLoc s.ctl.initProgress) s.ctl.initProgress 0 .controller) rfl
      (by simp [State.issueWrite_eq]) (by simp [State.writeOp])
  · exact h

theorem State.Orderly.fillDone {s : State} (h : s.Orderly) (line : Nat) : (s.fillDone line).Orderly := by
  unfold State.fillDone
  split
  · exact h
  next found => exact h.finishFound found (by simp +contextual)

/-- No write to the window issues an operation: INJECT arms an injection and ARRAY_CFG sets the size. -/
@[simp] theorem State.writeReg_ops (s : State) (r : Reg) (v : Word32) : (s.writeReg r v).aif.ops = s.aif.ops := by
  cases r with
  | arrayCfg => simp only [State.writeReg, State.writeArrayCfg]; (repeat' split) <;> rfl
  | cmdCode =>
    simp only [State.writeReg, State.writeCode, State.takeCode, State.tryTake]
    split
    · rfl
    · split
      · simp
      next c _ =>
        split
        · cases c with
          | inject => simp only [State.take, State.takeInject]; split <;> simp
          | _ => simp [State.take]
        · simp
  | _ => simp [State.writeReg]

theorem State.Orderly.busWrite {s : State} (h : s.Orderly) (r : Reg) (be : Enables) (v : Word32) :
    (s.busWrite r be v).Orderly := by
  unfold State.busWrite
  split
  · exact h
  · exact h.quiet (by simp) (by simp)

theorem State.Orderly.windowWrite {s : State} (h : s.Orderly) (offset : BitVec 12) (be : Enables) (v : Word32) :
    (s.windowWrite offset be v).Orderly := by
  unfold State.windowWrite
  split
  · exact h
  · exact h.busWrite _ be v

/-- An empty table without issued operations, as a reset leaves it (R16, R87). -/
theorem State.orderly_of_empty (s : State) (olt : s.olt = .empty) (ops : s.aif.ops = []) : s.Orderly := by
  have reset : State.reset.Orderly := State.reset.openSound_iff.1 (by decide +kernel)
  exact reset.quiet olt ops

/-! ## One command, one step -/

/-- The next state is the one that a command answers. -/
theorem State.Orderly.of_next {u t : State} (h : (.next u : Result) = .next t) (orderly : u.Orderly) : t.Orderly :=
  Host.Outcome.next.inj h ▸ orderly

theorem exec_orderly (c : Instr) (s t : State) (orderly : s.Orderly) (h : exec c s = .next t) : t.Orderly := by
  have opened := orderly.opened
  have issued := orderly.newStep.settleIssues
  cases c with
  | powerOnReset | warmReset => exact .of_next h (State.orderly_of_empty _ rfl rfl)
  | grantPortHead => exact .of_next h opened.grantPortHead
  | grantCopyRead => exact .of_next h opened.grantCopyRead
  | grantPatrol => exact .of_next h opened.grantPatrolUnit
  | entryIssue k =>
    refine .of_next h ?_
    unfold State.issueIfDue
    split
    next due => exact orderly.newStep.issueEntry k due
    next => exact orderly.newStep
  | demandReadComplete k => exact .of_next h (opened.demandReadDone k)
  | partialWriteReadComplete k => exact .of_next h (opened.partialReadDone k)
  | demandWriteComplete k => exact .of_next h (opened.demandWriteDone k)
  | rmwPoisonWriteComplete k => exact .of_next h (opened.poisonWriteDone k)
  | sourceWriteComplete k => exact .of_next h (opened.sourceWriteDone k)
  | writebackComplete k => exact .of_next h (opened.writebackDone k)
  | patrolReadComplete k => exact .of_next h (opened.patrolReadDone k)
  | scrubWriteComplete k => exact .of_next h (opened.scrubWriteDone k)
  | copyReadComplete k w => exact .of_next h (opened.copyReadDone k w)
  | targetWriteComplete => exact .of_next h opened.targetWriteDone
  | verifyComplete => exact .of_next h opened.verifyDone
  | lateCompletion op => exact .of_next h (opened.lateDone op)
  | fillWriteIssue => exact .of_next h opened.fillIssue
  | fillWriteComplete line => exact .of_next h (opened.fillDone line)
  | itemStart | initFillEnd | drainComplete | haltedStopComplete =>
    exact .of_next h (issued.quiet (by simp) (by simp))
  | init | start | stop | setRegion | clearRegion | retire | release | loadRemap | markSpareBad | scrub | inject
  | clearSuspects => exact .of_next h (opened.busWrite _ _ _)
  | unknownCommand code => exact .of_next h (opened.busWrite _ _ code)
  | commandRefused code => exact .of_next h (opened.busWrite _ _ code)
  | arrayCfgWrite be v | suspectCfgWrite be v | patrolCfgWrite be v | irqCauseWrite be v | irqEnableWrite be v
  | cmdStatusWrite be v | recPop be v | counterClear _ be v => exact .of_next h (opened.busWrite _ be v)
  | registerWrite offset be v => exact .of_next h (opened.windowWrite offset be v)
  | arrayCellFault phys word bits =>
    simp only [exec, execArrayCellFault] at h
    split at h
    · refine .of_next h (opened.quiet (by simp) ?_)
      unfold State.cellFault
      split <;> rfl
    · cases h
  | resetRelease | requestAccept | patrolTimerExpiry => exact .of_next h (opened.quiet (by simp) (by simp))

/-- Settles O58: what is due and the command of a step keep the chains and the outstanding operations. -/
theorem everyStepKeepsOpenSound : Obligations.EveryStepKeepsOpenSound := by
  intro s t sound h
  have orderly := s.openSound_iff.1 sound
  refine t.openSound_iff.2 ?_
  unfold step at h
  split at h
  · exact .of_next h orderly.opened
  next c rest _ => exact exec_orderly c (s.setPending rest) t (orderly.quiet rfl rfl) h

end Sys2Proof.Machine
end

section
/-!
PROOFS. A granted port head becomes an entry (R64, R66, R148, R164), and an entry whose turn has come issues at the array
(R8, R15, R21, R68, R75).
-/

namespace Sys2Proof.Machine

/-! ## The grant of a port head (R158, R162, R164) -/

/-- The head is taken off its queue and the arbiter moves on (R158, R162, R163). -/
def State.headGranted (u : State) (p : PortId) : State :=
  (u.setPorts (u.ports.headTaken p)).setArbiter (u.arbiterAfter p)

theorem State.grantPortHead_eq (u : State) (p : PortId) (r : Request) (rest : List Request)
    (chosen : u.choice = some (.port p)) (queue : (u.ports.get p).queue = r :: rest) :
    u.grantPortHead = (u.headGranted p).grantHead p r := by
  simp only [State.grantPortHead, chosen, State.grantPort, queue, State.headGranted, Ports.headTaken, List.tail_cons]

/-- A read that passes the access check becomes an entry (R146, R164). -/
theorem State.grantHead_read (v : State) (p : PortId) (r : Request) (g : Region)
    (region : v.regionOf r.line.toNat = some g) (kind : r.kind = .read) (permitted : permits g.readMask p = true) :
    v.grantHead p r = v.createEntry (.demandRead p r.tag) r.line.toNat g.cls := by
  simp only [State.grantHead, region, kind, permitted, ↓reduceIte]

/-- A write with a mask that is not all zero and that passes the access check becomes an entry (R74, R146, R164). -/
theorem State.grantHead_write (v : State) (p : PortId) (r : Request) (g : Region) (mask : ByteMask) (data : LineData)
    (region : v.regionOf r.line.toNat = some g) (kind : r.kind = .write mask data) (some_byte : mask ≠ 0)
    (permitted : permits g.writeMask p = true) (open_ : g.writeProtect = false) :
    v.grantHead p r = v.createEntry (.demandWrite p r.tag mask data) r.line.toNat g.cls := by
  have mask_ok : zeroMask mask = false := decide_eq_false some_byte
  simp only [State.grantHead, region, kind, permitted, open_, mask_ok, ↓reduceIte, Bool.false_eq_true]

/-- Settles O11: the arbiter's choice is granted, passes the check, and takes the lowest empty slot. -/
theorem portHeadBecomesEntry : Obligations.PortHeadBecomesEntry := by
  intro s p r rest g k u chosen queue region empty size lower v
  have slot := u.emptySlot_eq k empty size lower
  have granted : exec .grantPortHead s = .next ((u.headGranted p).grantHead p r) :=
    congrArg Host.Outcome.next (u.grantPortHead_eq p r rest chosen queue)
  clear_value u
  have entry (work : Work) : (u.headGranted p).createEntry work r.line.toNat g.cls = v work :=
    (u.headGranted p).createEntry_eq k work _ _ slot
  refine ⟨fun kind permitted => ?_, fun mask data kind some_byte permitted open_ => ?_⟩
  · rw [granted, (u.headGranted p).grantHead_read p r g region kind permitted, entry]
  · rw [granted, (u.headGranted p).grantHead_write p r g mask data region kind some_byte permitted open_, entry]

/-! ## The place of a line (R21, R22) -/

/-- A line's location by the state of its remap entry (R22). -/
theorem State.sourceLoc_some (u : State) (line : Nat) (e : RemapEntry) (found : u.entryOf line = some e) :
    u.sourceLoc line = match e.state with
      | .active c _ => .spare c
      | .copying _ => .home
      | .moving c _ _ => .spare c
      | .releasing c _ => .spare c := by
  unfold State.sourceLoc
  rw [found] <;> rfl

/-- The lookup of a line with an entry: the buffer in a copying state with a valid buffer, else its location (R21). -/
theorem State.lookup_some (u : State) (line : Nat) (e : RemapEntry) (found : u.entryOf line = some e) :
    u.lookup line =
      if e.state.copying? && u.copy.buffer.valid then .copyBuffer else .loc (u.sourceLoc line) := by
  simp only [State.lookup, State.lineCopying, found]

/-- A line without an entry lives at HOME (R21). -/
theorem State.lookup_none (u : State) (line : Nat) (absent : u.entryOf line = none) :
    u.sourceLoc line = .home ∧ u.lookup line = .loc .home := by
  simp [State.lookup, State.lineCopying, State.sourceLoc, absent]

/-! ## Issue at the array (R68, R75) -/

theorem CheckClass.decodes_eq (c : CheckClass) : c.decodes = decide (c = .checked) := by cases c <;> rfl

/-- An entry reads its place (R68). -/
theorem State.issueEntryRead_eq (u : State) (k : Nat) (e : OpenEntry) (l : Loc) (decoded : Bool) :
    u.issueEntryRead k e l decoded = { u with
      aif := { u.aif with ops := u.aif.ops ++ [u.readOp l e.line decoded (.engine k)] }
      olt := { order := u.olt.order, slots := u.olt.slots.set k (some
        { e with place := some (.loc l), state := .reading }) } } := rfl

/-- A demand read at a location reads it, decoded by its class (R8, R68). -/
theorem State.issueEntry_read (u : State) (k : Nat) (e : OpenEntry) (p : PortId) (t : Tag) (l : Loc)
    (found : u.entryAt k = some e) (work : e.work = .demandRead p t) (place : u.lookup e.line = .loc l) :
    u.issueEntry k = u.issueEntryRead k e l e.cls.decodes := by
  simp only [State.issueEntry, found, work, place]

/-- A demand write at a location (R68). -/
theorem State.issueEntry_write (u : State) (k : Nat) (e : OpenEntry) (p : PortId) (t : Tag) (mask : ByteMask)
    (data : LineData) (l : Loc) (found : u.entryAt k = some e) (work : e.work = .demandWrite p t mask data)
    (place : u.lookup e.line = .loc l) : u.issueEntry k = u.issueArrayWrite k e mask data l := by
  simp only [State.issueEntry, found, work, place]

theorem State.issueEntry_copyRead (u : State) (k : Nat) (e : OpenEntry) (n : BitVec 16) (found : u.entryAt k = some e)
    (work : e.work = .copyRead n) : u.issueEntry k = u.issueEntryRead k e (u.sourceLoc e.line) e.cls.decodes := by
  simp only [State.issueEntry, found, work]

theorem State.issueEntry_patrol (u : State) (k : Nat) (e : OpenEntry) (found : u.entryAt k = some e)
    (work : e.work = .patrol) (stable : u.lineCopying e.line = false) :
    u.issueEntry k = u.issueEntryRead k e (u.sourceLoc e.line) true := by
  simp only [State.issueEntry, found, work, stable, Bool.false_eq_true, ↓reduceIte]

/-- A partial write reads first (R76). -/
theorem State.issueArrayWrite_partial (u : State) (k : Nat) (e : OpenEntry) (mask : ByteMask) (data : LineData) (l : Loc)
    (part : mask ≠ BitVec.allOnes 64) : u.issueArrayWrite k e mask data l = u.issueEntryRead k e l e.cls.decodes := by
  rw [State.issueArrayWrite, fullMask, decide_eq_false part]
  rfl

/-- A full write writes at once, with an armed injection of its line (R15, R75). -/
theorem State.issueArrayWrite_full (u : State) (k : Nat) (e : OpenEntry) (mask : ByteMask) (data : LineData) (l : Loc)
    (full : mask = BitVec.allOnes 64) : u.issueArrayWrite k e mask data l = { u with
      aif := { u.aif with
        ops := u.aif.ops ++ [u.writeOp l e.line data (.engine k)], injection := u.injectionLeft e.line }
      olt := { order := u.olt.order, slots := u.olt.slots.set k (some
        { e with place := some (.loc l), state := .writing }) } } := by
  rw [State.issueArrayWrite, fullMask, decide_eq_true full, if_pos rfl, State.issueWrite_eq]
  rfl

/-- Settles O13: the lookup by the state of the line's entry, and the issue of the entry by its work. -/
theorem entryIssuesAtTheArray : Obligations.EntryIssuesAtTheArray := by
  refine ⟨fun u line => ⟨u.lookup_none line, fun e found => ?_⟩, ?_⟩
  · intro copies
    have source := u.sourceLoc_some line e found
    have place := u.lookup_some line e found
    refine ⟨fun c m state => ?_, fun t state => ?_, fun c t m state => ?_, fun c m state => ?_⟩ <;>
    · simp only [state] at source
      simp only [state, RemapState.copying?, source, Bool.false_and, Bool.true_and, Bool.false_eq_true,
        ↓reduceIte] at place
      exact ⟨source, place⟩
  · intro s k e u found turn may reads
    have issues : exec (.entryIssue k) s = .next (u.issueEntry k) :=
      congrArg Host.Outcome.next (u.issueIfDue_eq k e found turn may)
    refine ⟨fun p t l work place => ?_, fun p t mask data l work part place => ?_, fun n work => ?_,
      fun work stable => ?_, fun p t mask data l work full place => ?_⟩
    · rw [issues, u.issueEntry_read k e p t l found work place, e.cls.decodes_eq]
      rfl
    · rw [issues, u.issueEntry_write k e p t mask data l found work place,
        u.issueArrayWrite_partial k e mask data l part, e.cls.decodes_eq]
      rfl
    · rw [issues, u.issueEntry_copyRead k e n found work, e.cls.decodes_eq]
      rfl
    · rw [issues, u.issueEntry_patrol k e found work stable]
      rfl
    · rw [issues, u.issueEntry_write k e p t mask data l found work place, u.issueArrayWrite_full k e mask data l full]

end Sys2Proof.Machine
end

section
/-!
PROOFS. The completions of demand operations (R60, R70 to R79). A completion takes its operation off the array and answers
its port; it does so before it makes records and updates lists, but nothing of these looks at what it changed.
-/

namespace Sys2Proof.Machine

/-! ## What a completion changes, apart from the rest -/

/-- The state `v` with the operation completed as it was in `u`, and with these ports and responses (R9 to R11). -/
def State.served (v u : State) (op : ArrayOp) (ps : Ports) (rs : List Response) : State :=
  { v with aif := (u.finishOp op).aif, freeReads := (u.finishOp op).freeReads, ports := ps, responses := rs }

theorem State.finishOp_served (u : State) (op : ArrayOp) : u.finishOp op = u.served u op u.ports u.responses := rfl

theorem State.answer_served (u : State) (op : ArrayOp) (r : Response) :
    (u.finishOp op).answer r = u.served u op (u.ports.released r.port r.tag) (u.responses ++ [r]) := rfl

section
variable (v u : State) (op : ArrayOp) (ps : Ports) (rs : List Response)

@[simp] theorem State.served_olt : (v.served u op ps rs).olt = v.olt := rfl

/-- An offer does not look at what a completion changes (R124). -/
theorem State.served_offer (r : Record) : (v.served u op ps rs).offer r = (v.offer r).served u op ps rs :=
  KeepsReports.offer (f := fun v => v.served u op ps rs) (fun _ _ _ _ => rfl) v r

theorem State.served_count (c : Counter) : (v.served u op ps rs).count c = (v.count c).served u op ps rs := rfl

theorem State.served_nominate (line : Nat) : (v.served u op ps rs).nominate line = (v.nominate line).served u op ps rs := by
  have same : (v.served u op ps rs).rtqAnswer line = v.rtqAnswer line := rfl
  unfold State.nominate
  rw [same]
  cases v.rtqAnswer line <;> rfl

theorem State.served_nominateAt (line n : Nat) :
    (v.served u op ps rs).nominateAt line n = (v.nominateAt line n).served u op ps rs := by
  have threshold : (v.served u op ps rs).suspects.threshold = v.suspects.threshold := rfl
  unfold State.nominateAt
  rw [threshold]
  split
  · exact State.served_nominate v u op ps rs line
  · rfl

theorem State.served_suspectAtTail (e : Suspect) :
    (v.served u op ps rs).suspectAtTail e = (v.suspectAtTail e).served u op ps rs := rfl

theorem State.served_addSuspect (line : Nat) (l : Loc) (mask : WordMask) :
    (v.served u op ps rs).addSuspect line l mask = (v.addSuspect line l mask).served u op ps rs := by
  have list : (v.served u op ps rs).suspects = v.suspects := rfl
  unfold State.addSuspect
  rw [list]
  split
  · exact State.served_nominateAt (v.suspectAtTail (freshSuspect line l mask)) u op ps rs line 1
  · split
    next x _ =>
      exact State.served_nominateAt (((v.removeSuspect x.line).count .suspectEvict).suspectAtTail
        (freshSuspect line l mask)) u op ps rs line 1
    next => rfl

theorem State.served_bumpSuspect (e : Suspect) (mask : WordMask) :
    (v.served u op ps rs).bumpSuspect e mask = (v.bumpSuspect e mask).served u op ps rs := by
  unfold State.bumpSuspect
  split
  · rfl
  · exact State.served_nominateAt (v.suspectAtTail
      { e with count := min (e.count + 1) v.suspects.threshold, mask := e.mask ||| mask }) u op ps rs _ _

/-- The Suspect List's update does not look at what a completion changes (R91 to R94). -/
theorem State.served_suspectUpdate (line : Nat) (l : Loc) (mask : WordMask) :
    (v.served u op ps rs).suspectUpdate line l mask = (v.suspectUpdate line l mask).served u op ps rs := by
  have copying : (v.served u op ps rs).lineCopying line = v.lineCopying line := rfl
  have list : (v.served u op ps rs).suspects = v.suspects := rfl
  unfold State.suspectUpdate
  rw [copying, list]
  split
  · rfl
  · split
    · split
      · exact State.served_bumpSuspect v u op ps rs _ mask
      · exact State.served_nominateAt (v.suspectAtTail (freshSuspect line l mask)) u op ps rs line 1
    · exact State.served_addSuspect v u op ps rs line l mask

theorem State.served_reportCorrected (src : RecordSource) (line : Nat) (l : Loc) (mask : WordMask) :
    (v.served u op ps rs).reportCorrected src line l mask = (v.reportCorrected src line l mask).served u op ps rs := by
  rw [State.reportCorrected, State.served_offer, State.served_count, State.served_suspectUpdate, State.reportCorrected]

theorem State.served_reportUncorrectable (src : RecordSource) (line : Nat) (l : Loc) (mask : WordMask) :
    (v.served u op ps rs).reportUncorrectable src line l mask =
      (v.reportUncorrectable src line l mask).served u op ps rs := by
  rw [State.reportUncorrectable, State.served_offer, State.served_count, State.reportUncorrectable]

/-- RETIRE_ON_UE does not look at what a completion changes (R85). -/
theorem State.served_retireOnUe (line : Nat) :
    (v.served u op ps rs).retireOnUe line = (v.retireOnUe line).served u op ps rs := by
  have policy : (v.served u op ps rs).policy = v.policy := rfl
  have answer : (v.served u op ps rs).rtqAnswer line = v.rtqAnswer line := rfl
  unfold State.retireOnUe
  rw [policy, answer]
  cases v.policy.retireOnUe
  · rfl
  · cases v.rtqAnswer line <;> rfl

/-- A write that the engine issues after the completion (R9, R15). -/
theorem State.served_issueWrite (l : Loc) (line : Nat) (d : LineData) (k : Nat) :
    (v.served u op ps rs).issueWrite l line d (.engine k) = (v.served u op ps rs).setAif {
      (u.finishOp op).aif with
      ops := (u.finishOp op).aif.ops ++ [u.writeOp l line d (.engine k)], injection := u.injectionLeft line } := by
  rw [State.issueWrite_eq]
  rfl

end

/-! ## An entry that leaves, an entry that writes -/

/-- The entry leaves after its completion: what becomes of the table, the array and the rest (R9, R67). -/
theorem State.served_leaves (v u : State) (k : Nat) (e : OpenEntry) (op : ArrayOp) (ps : Ports) (rs : List Response)
    (outstanding : u.entryOp k = some (e, op)) (free : ∀ m, e.state ≠ .blocked (.entry m)) (olt : v.olt = u.olt) :
    let w := (v.served u op ps rs).removeEntry k
    u.entryLeft w k ∧ u.opDone w op [] u.aif.injection ∧
    w = { v with aif := w.aif, freeReads := w.freeReads, olt := w.olt, ports := ps, responses := rs } := by
  obtain ⟨found, -⟩ := u.entryOp_spec k e op outstanding
  refine ⟨u.removeEntry_entryLeft _ k e found free olt, ?_, ?_⟩
  · rw [State.removeEntry_eq]
    exact u.opDone_of_eq (u.finishOp op) _ op [] _ (u.finishOp_opDone op) rfl rfl
  · rw [State.removeEntry_eq]
    rfl

/-- The entry writes after its completion: a write of data to its place (R9, R15). -/
theorem State.served_writes (v u : State) (k : Nat) (x : OpenEntry) (op : ArrayOp) (ps : Ports) (rs : List Response)
    (l : Loc) (line : Nat) (d : LineData) (olt : v.olt = u.olt) :
    let w := ((v.served u op ps rs).issueWrite l line d (.engine k)).putOpen k x
    u.opDone w op [u.writeOp l line d (.engine k)] (u.injectionLeft line) ∧
    w.olt = { order := u.olt.order, slots := u.olt.slots.set k (some x) } ∧
    w = { v with aif := w.aif, freeReads := w.freeReads, olt := w.olt, ports := ps, responses := rs } := by
  rw [State.served_issueWrite, ← olt]
  exact ⟨⟨rfl, rfl⟩, rfl, rfl⟩

/-- The entry's place, at a location (R22). -/
theorem OpenEntry.loc_eq (e : OpenEntry) (l : Loc) (place : e.place = some (.loc l)) : e.loc = l := by
  rw [OpenEntry.loc, place]

/-! ## DEMAND_READ_COMPLETE (R70 to R73) -/

/-- A RAW demand read is answered with the bytes as they stand (R70). -/
theorem State.demandReadDone_raw (u : State) (k : Nat) (e : OpenEntry) (op : ArrayOp) (p : PortId) (t : Tag)
    (outstanding : u.entryOp k = some (e, op)) (work : e.work = .demandRead p t) (reading : e.state = .reading)
    (raw : op.kind = .readLine false) : u.demandReadDone k = (u.finishOp op).readOk k p t (u.rawRead op.phys) := by
  simp only [State.demandReadDone, outstanding, work, reading, raw]

/-- A decoded demand read is handled by its outcome (R70 to R73). -/
theorem State.demandReadDone_decoded (u : State) (k : Nat) (e : OpenEntry) (op : ArrayOp) (p : PortId) (t : Tag)
    (outstanding : u.entryOp k = some (e, op)) (work : e.work = .demandRead p t) (reading : e.state = .reading)
    (decoded : op.kind = .readLine true) :
    u.demandReadDone k = (u.finishOp op).readDecoded k e p t (u.decodedRead op.phys) := by
  simp only [State.demandReadDone, outstanding, work, reading, decoded]

/-- The raw bits of a poisoned line are zero (R5). -/
theorem storedPoison_raw : storedPoison.raw = 0 := by decide +kernel

/-- Settles O16: a CLEAN or RAW read is answered with the data it delivers; poison has zero data bits. -/
theorem demandReadAnsweredOk : Obligations.DemandReadAnsweredOk := by
  intro s k e op p t u outstanding work reading answered
  have raw := u.demandReadDone_raw k e op p t outstanding work reading
  have decoded := u.demandReadDone_decoded k e op p t outstanding work reading
  have row : exec (.demandReadComplete k) s = .next (u.demandReadDone k) := rfl
  clear_value u
  have ok (d : LineData) (done : u.demandReadDone k = (u.finishOp op).readOk k p t d) : answered d :=
    ⟨_, row.trans (congrArg _ done),
      u.served_leaves u k e op (u.ports.released p t) _ outstanding (by simp [reading]) rfl⟩
  refine ⟨fun kind clean => ok _ ?_, fun kind => ⟨ok _ (raw kind), fun poison => ok 0 ?_⟩⟩
  · rw [decoded kind, State.readDecoded, clean]
  · rw [raw kind, State.rawRead, poison]
    exact congrArg _ storedPoison_raw

/-- A CORRECTED read is answered and reported; then its line is written back, or the entry leaves (R71). -/
theorem State.readCorrected_served (u : State) (k : Nat) (e : OpenEntry) (op : ArrayOp) (p : PortId) (t : Tag)
    (r : LineRead) (l : Loc) (place : e.place = some (.loc l)) (corrected : r.outcome = .corrected) :
    let v := (u.reportCorrected (.port p) e.line l r.corrected).served u op (u.ports.released p t) (u.responses ++
      [{ port := p, tag := t, status := .corrected, data := some r.data, mask := r.corrected }])
    (u.finishOp op).readDecoded k e p t r =
      if u.policy.writebackOnCorrect then
        (v.issueWrite l e.line r.data (.engine k)).putOpen k
          { e with state := .writeback, result := some { outcome := .corrected, corrected := r.corrected } }
      else v.removeEntry k := by
  have policy (v : State) (same : v.policy = u.policy) : v.policy.writebackOnCorrect = u.policy.writebackOnCorrect := by
    rw [same]
  simp only [State.readDecoded, corrected, State.readCorrected, e.loc_eq l place, State.answer_served,
    State.served_reportCorrected]
  rw [policy _ (by simp [State.served])]

/-- Settles O17: the read's report, its answer, and the write-back or the removal by WRITEBACK_ON_CORRECT. -/
theorem demandReadCorrected : Obligations.DemandReadCorrected := by
  intro s k e op p t l u outstanding work reading place decoded outcome r
  have row : exec (.demandReadComplete k) s = .next (u.demandReadDone k) := rfl
  clear_value u
  rw [u.demandReadDone_decoded k e op p t outstanding work reading decoded,
    u.readCorrected_served k e op p t r l place outcome] at row
  have olt : (u.reportCorrected (.port p) e.line l r.corrected).olt = u.olt := by simp
  cases writeback : u.policy.writebackOnCorrect with
  | true =>
    rw [writeback, if_pos rfl] at row
    obtain ⟨done, table, rest⟩ := State.served_writes _ u k _ op _ _ l e.line r.data olt
    exact ⟨_, row, rest, fun off => absurd off (by simp), fun _ => ⟨done, table⟩⟩
  | false =>
    rw [writeback, if_neg (by simp)] at row
    obtain ⟨left, done, rest⟩ := State.served_leaves _ u k e op _ _ outstanding (by simp [reading]) olt
    exact ⟨_, row, rest, fun _ => ⟨left, done⟩, fun on => absurd on (by simp)⟩

/-- An UNCORRECTABLE read is answered and reported; RETIRE_ON_UE, the removal and HALT_ON_UE follow (R72). -/
theorem State.readUncorrectable_served (u : State) (k : Nat) (e : OpenEntry) (op : ArrayOp) (p : PortId) (t : Tag)
    (r : LineRead) (l : Loc) (place : e.place = some (.loc l)) (uncorrectable : r.outcome = .uncorrectable) :
    (u.finishOp op).readDecoded k e p t r =
      ((((u.reportUncorrectable (.port p) e.line l r.errors).retireOnUe e.line).served u op (u.ports.released p t)
        (u.responses ++ [{ port := p, tag := t, status := .dataError, data := some r.data, mask := r.corrected }]
        )).removeEntry k).haltOnUe e.line := by
  simp only [State.readDecoded, uncorrectable, State.readUncorrectable, e.loc_eq l place, State.answer_served,
    State.served_reportUncorrectable, State.served_retireOnUe]

/-- Settles O18: the report, RETIRE_ON_UE and the answer; the entry leaves before HALT_ON_UE decides. -/
theorem demandReadUncorrectable : Obligations.DemandReadUncorrectable := by
  intro s k e op p t l u outstanding work reading place decoded outcome r
  have row : exec (.demandReadComplete k) s = .next (u.demandReadDone k) := rfl
  clear_value u
  rw [u.demandReadDone_decoded k e op p t outstanding work reading decoded,
    u.readUncorrectable_served k e op p t r l place outcome] at row
  exact ⟨_, row, State.served_leaves _ u k e op _ _ outstanding (by simp [reading]) (by simp)⟩

/-! ## PARTIAL_WRITE_READ_COMPLETE (R76 to R79) -/

/-- A RAW read of a partial write is merged (R79). -/
theorem State.partialReadDone_raw (u : State) (k : Nat) (e : OpenEntry) (op : ArrayOp) (p : PortId) (t : Tag)
    (mask : ByteMask) (data : LineData) (outstanding : u.entryOp k = some (e, op))
    (work : e.work = .demandWrite p t mask data) (reading : e.state = .reading) (raw : op.kind = .readLine false) :
    u.partialReadDone k = (u.finishOp op).writeMerged k e mask data (u.rawRead op.phys) none := by
  simp only [State.partialReadDone, outstanding, work, reading, raw]

/-- A decoded read of a partial write is handled by its outcome (R76 to R78). -/
theorem State.partialReadDone_decoded (u : State) (k : Nat) (e : OpenEntry) (op : ArrayOp) (p : PortId) (t : Tag)
    (mask : ByteMask) (data : LineData) (outstanding : u.entryOp k = some (e, op))
    (work : e.work = .demandWrite p t mask data) (reading : e.state = .reading) (decoded : op.kind = .readLine true) :
    u.partialReadDone k = (u.finishOp op).partialDecoded k e p t mask data (u.decodedRead op.phys) := by
  simp only [State.partialReadDone, outstanding, work, reading, decoded]

/-- The record and the counter of a POISONED outcome are those of an answered entry (R73, R78). -/
theorem State.poisonHit_served (u : State) (k : Nat) (line : Nat) (op : ArrayOp) (p : PortId) (t : Tag) (l : Loc)
    (d : Option LineData) :
    ((((u.finishOp op).answer { port := p, tag := t, status := .poisoned, data := d, mask := 0 }).offer
      (poisonHitRecord p line l)).count .poison).removeEntry k =
    (((u.offer (poisonHitRecord p line l)).count .poison).served u op (u.ports.released p t)
      (u.responses ++ [{ port := p, tag := t, status := .poisoned, data := d, mask := 0 }])).removeEntry k := by
  rw [State.answer_served, State.served_offer, State.served_count]

/-- Settles O19: both rows answer, report and remove, the read with zero data. -/
theorem poisonedLineAnswersPoisoned : Obligations.PoisonedLineAnswersPoisoned := by
  intro s k e op p t l u outstanding reading place decoded outcome answered
  have readRow : exec (.demandReadComplete k) s = .next (u.demandReadDone k) := rfl
  have writeRow : exec (.partialWriteReadComplete k) s = .next (u.partialReadDone k) := rfl
  clear_value u
  have leaves (d : Option LineData) := State.served_leaves ((u.offer (poisonHitRecord p e.line l)).count .poison) u k e
    op (u.ports.released p t) (u.responses ++ [{ port := p, tag := t, status := .poisoned, data := d, mask := 0 }])
    outstanding (by simp [reading]) (by simp)
  refine ⟨fun work => ⟨_, readRow.trans (congrArg _ ?_), leaves (some 0)⟩, fun mask data work =>
    ⟨_, writeRow.trans (congrArg _ ?_), leaves none⟩⟩
  · rw [u.demandReadDone_decoded k e op p t outstanding work reading decoded, State.readDecoded, outcome,
      ← u.poisonHit_served k e.line op p t l (some 0), ← e.loc_eq l place]
    rfl
  · rw [u.partialReadDone_decoded k e op p t mask data outstanding work reading decoded, State.partialDecoded, outcome,
      ← u.poisonHit_served k e.line op p t l none, ← e.loc_eq l place]
    rfl

/-- Settles O20: after the report of a CORRECTED outcome, and otherwise at once, the merged line is written. -/
theorem partialWriteMerges : Obligations.PartialWriteMerges := by
  intro s k e op p t mask data l u outstanding work reading place r merged
  have row : exec (.partialWriteReadComplete k) s = .next (u.partialReadDone k) := rfl
  clear_value u
  have raw := u.partialReadDone_raw k e op p t mask data outstanding work reading
  have decoded := u.partialReadDone_decoded k e op p t mask data outstanding work reading
  have writes (v : State) (old : LineData) (res : Option EntryResult) (olt : v.olt = u.olt)
      (ports : v.ports = u.ports) (responses : v.responses = u.responses)
      (done : u.partialReadDone k = (v.served u op u.ports u.responses).writeMerged k e mask data old res) :
      merged v old res := by
    rw [State.writeMerged, e.loc_eq l place, ← ports, ← responses] at done
    obtain ⟨opDone, table, rest⟩ := State.served_writes v u k { e with state := .writing, result := res } op v.ports
      v.responses l e.line (mergeBytes mask data old) olt
    refine ⟨_, _, row.trans (congrArg _ done), fun b inside => lineByte_mergeBytes mask data old b inside, opDone, ?_⟩
    rw [← table]
    exact rest
  refine ⟨fun kind clean => writes u _ _ rfl rfl rfl ?_, fun kind corrected =>
    writes (u.reportCorrected (.port p) e.line l r.corrected) _ _ (by simp) (by simp) (by simp) ?_,
    fun kind => writes u _ _ rfl rfl rfl (raw kind)⟩
  · rw [decoded kind, State.partialDecoded, clean]
    rfl
  · rw [decoded kind, State.partialDecoded, corrected, e.loc_eq l place, ← State.served_reportCorrected]
    rfl

/-- Settles O21: the poison write is issued and the outcome reported; neither looks at what the other changes. -/
theorem partialWritePoisonsUncorrectable : Obligations.PartialWritePoisonsUncorrectable := by
  intro s k e op p t mask data l u outstanding work reading place decoded outcome r
  have row : exec (.partialWriteReadComplete k) s = .next (u.partialReadDone k) := rfl
  clear_value u
  let poisons : State → State := fun v => { v with
    aif := ((u.finishOp op).issuePoison l e.line (.engine k)).aif, freeReads := (u.finishOp op).freeReads
    olt := { order := u.olt.order, slots := u.olt.slots.set k (some
      { e with state := .writing, result := some { outcome := .uncorrectable, corrected := r.corrected } }) } }
  have keeps : KeepsReports poisons := fun _ _ _ _ => rfl
  have done : u.partialReadDone k = poisons (u.reportUncorrectable (.port p) e.line l r.errors) := by
    rw [u.partialReadDone_decoded k e op p t mask data outstanding work reading decoded, State.partialDecoded, outcome]
    simp only [State.partialUncorrectable, e.loc_eq l place, outcome]
    exact congrArg (fun v : State => v.count .uncorrectable) (keeps.offer u _)
  rw [done] at row
  exact ⟨_, row, ⟨rfl, rfl⟩, rfl⟩

end Sys2Proof.Machine
end

section
/-!
PROOFS. The completions of writes (R60, R71, R75 to R79) and of the patrol's reads and writes (R80, R113, R114).
-/

namespace Sys2Proof.Machine

/-! ## Write completions (R60, R71, R75 to R77, R79) -/

/-- A demand write that is written at a location and holds no uncorrectable read result is answered by it (R75, R76). -/
theorem State.demandWriteDone_answers (u : State) (k : Nat) (e : OpenEntry) (op : ArrayOp) (p : PortId) (t : Tag)
    (mask : ByteMask) (data : LineData) (outstanding : u.entryOp k = some (e, op))
    (work : e.work = .demandWrite p t mask data) (writing : e.state = .writing) (array : e.atBuffer = false)
    (clear : e.poisoning = false) :
    u.demandWriteDone k = ((u.finishOp op).answer
      { port := p, tag := t, status := Machine.writeStatus e.result, data := none
        mask := writeMask e.result }).removeEntry k := by
  simp only [State.demandWriteDone, outstanding, work, writing, array, clear, Bool.or_self, Bool.false_eq_true,
    if_false]

/-- The poison write of an uncorrectable partial write is answered DATA_ERROR, and the policies follow (R77). -/
theorem State.poisonWriteDone_answers (u : State) (k : Nat) (e : OpenEntry) (op : ArrayOp) (p : PortId) (t : Tag)
    (mask : ByteMask) (data : LineData) (outstanding : u.entryOp k = some (e, op))
    (work : e.work = .demandWrite p t mask data) (writing : e.state = .writing) (array : e.atBuffer = false)
    (poisoning : e.poisoning = true) :
    u.poisonWriteDone k = ((((u.finishOp op).answer
      { port := p, tag := t, status := .dataError, data := none, mask := writeMask e.result }).retireOnUe
        e.line).removeEntry k).haltOnUe e.line := by
  simp only [State.poisonWriteDone, outstanding, work, writing, array, poisoning, Bool.not_false, Bool.and_self, if_true]

/-- A source write is answered OK (R60). -/
theorem State.sourceWriteDone_answers (u : State) (k : Nat) (e : OpenEntry) (op : ArrayOp) (p : PortId) (t : Tag)
    (mask : ByteMask) (data : LineData) (outstanding : u.entryOp k = some (e, op))
    (work : e.work = .demandWrite p t mask data) (writing : e.state = .writing) (buffer : e.atBuffer = true) :
    u.sourceWriteDone k =
      ((u.finishOp op).answer { port := p, tag := t, status := .ok, data := none, mask := 0 }).removeEntry k := by
  simp only [State.sourceWriteDone, outstanding, work, writing, buffer, if_true]

/-- A write-back ends its entry and answers nothing (R71). -/
theorem State.writebackDone_removes (u : State) (k : Nat) (e : OpenEntry) (op : ArrayOp) (p : PortId) (t : Tag)
    (outstanding : u.entryOp k = some (e, op)) (work : e.work = .demandRead p t) (writeback : e.state = .writeback) :
    u.writebackDone k = (u.finishOp op).removeEntry k := by
  simp only [State.writebackDone, outstanding, work, writeback]

theorem OpenEntry.atBuffer_loc (e : OpenEntry) (l : Loc) (place : e.place = some (.loc l)) : e.atBuffer = false := by
  simp [OpenEntry.atBuffer, place]

/-- Settles O22: each completion ends its entry; the status and the mask come from the read result. -/
theorem writeCompletions : Obligations.WriteCompletions := by
  intro s k e op p t u outstanding ends answered
  have write : exec (.demandWriteComplete k) s = .next (u.demandWriteDone k) := rfl
  have source : exec (.sourceWriteComplete k) s = .next (u.sourceWriteDone k) := rfl
  have back : exec (.writebackComplete k) s = .next (u.writebackDone k) := rfl
  clear_value u
  have leaves (ps : Ports) (rs : List Response) (free : ∀ m, e.state ≠ .blocked (.entry m)) :=
    State.served_leaves u u k e op ps rs outstanding free rfl
  have answers (i : Instr) (st : RespStatus) (m : WordMask) (writing : e.state = .writing)
      (row : exec i s = .next (((u.finishOp op).answer
        { port := p, tag := t, status := st, data := none, mask := m }).removeEntry k)) : ends i (answered st m) := by
    obtain ⟨left, done, rest⟩ := leaves (u.ports.released p t)
      (u.responses ++ [{ port := p, tag := t, status := st, data := none, mask := m }]) (by simp [writing])
    exact ⟨_, row, left, done, rest⟩
  refine ⟨fun mask data work writing => ⟨fun l place => ?_, fun place => ?_⟩, fun work writeback => ?_⟩
  · have done (clear : e.poisoning = false) := write.trans (congrArg _ (u.demandWriteDone_answers k e op p t mask data
      outstanding work writing (e.atBuffer_loc l place) clear))
    refine ⟨fun result => ?_, fun m result => ?_, fun m result => ?_⟩ <;>
      refine answers _ _ _ writing ((done (by simp [OpenEntry.poisoning, result])).trans ?_) <;> rw [result] <;> rfl
  · exact answers _ _ _ writing (source.trans (congrArg _ (u.sourceWriteDone_answers k e op p t mask data outstanding work
      writing (by simp [OpenEntry.atBuffer, place]))))
  · obtain ⟨left, done, rest⟩ := leaves u.ports u.responses (by simp [writeback])
    exact ⟨_, back.trans (congrArg _ (u.writebackDone_removes k e op p t outstanding work writeback)), left, done, rest⟩

/-- Settles O23: RETIRE_ON_UE does not look at the answer, and the entry leaves before HALT_ON_UE decides. -/
theorem poisonWriteAnswersDataError : Obligations.PoisonWriteAnswersDataError := by
  intro s k e op p t mask data l m u outstanding work writing place result
  have row : exec (.rmwPoisonWriteComplete k) s = .next (u.poisonWriteDone k) := rfl
  clear_value u
  rw [u.poisonWriteDone_answers k e op p t mask data outstanding work writing (e.atBuffer_loc l place)
    (by simp [OpenEntry.poisoning, result]), result, State.answer_served, State.served_retireOnUe] at row
  exact ⟨_, row, State.served_leaves _ u k e op _ _ outstanding (by simp [writing]) (by simp)⟩

/-! ## The patrol's line (R80, R108, R113, R114, R117) -/

/-- A line that qualifies, by the valid regions of the table. -/
theorem qualifies_iff (ok : Region → Bool) (regions : RegionTable) (c l : Nat) :
    qualifies ok regions.entries c l ↔
      c ≤ l ∧ ∃ g ∈ regions.valid, ok g = true ∧ g.base ≤ l ∧ l ≤ g.limit := by
  simp [qualifies, RegionTable.valid]

/-- A targeted scrub with a line left in its range chooses the lowest one (R117). -/
theorem State.scrubStep_choose (u : State) (r : ScrubRange) (l : Nat) (running : u.patrol.scrub = some r)
    (apart : u.regionsApart) (found : qualifies Region.scrubbed u.regions.entries r.cursor l)
    (lowest : ∀ l' < l, ¬ qualifies Region.scrubbed u.regions.entries r.cursor l') (inside : l ≤ r.last) :
    u.scrubStep = u.setPatrol { u.patrol.choose l .scrub with scrub := some { r with cursor := l + 1 } } := by
  have ordered : ∀ g, some g ∈ u.regions.entries → g.base ≤ g.limit := fun g valid =>
    (apart.2 g (by simpa [RegionTable.valid] using valid)).1
  cases choice : lowestLine Region.scrubbed u.regions.entries r.cursor with
  | none => exact absurd found (lowestLine_none _ _ _ choice l)
  | some m =>
    obtain ⟨qualified, least⟩ := lowestLine_some _ _ _ _ ordered choice
    have same : m = l := Nat.le_antisymm (Nat.not_lt.mp fun lt => least l lt found)
      (Nat.not_lt.mp fun lt => lowest m lt qualified)
    subst same
    simp only [State.scrubStep, running, choice, if_pos inside]

/-- A targeted scrub without a line left in its range ends (R117). -/
theorem State.scrubStep_end (u : State) (r : ScrubRange) (running : u.patrol.scrub = some r) (apart : u.regionsApart)
    (past : ∀ l, qualifies Region.scrubbed u.regions.entries r.cursor l → r.last < l) : u.scrubStep = u.endScrub := by
  have ordered : ∀ g, some g ∈ u.regions.entries → g.base ≤ g.limit := fun g valid =>
    (apart.2 g (by simpa [RegionTable.valid] using valid)).1
  cases choice : lowestLine Region.scrubbed u.regions.entries r.cursor with
  | none => simp only [State.scrubStep, running, choice]
  | some m =>
    obtain ⟨qualified, -⟩ := lowestLine_some _ _ _ _ ordered choice
    simp only [State.scrubStep, running, choice, if_neg (Nat.not_le.mpr (past m qualified))]

/-- A decoded patrol read is handled by its outcome (R113). -/
theorem State.patrolReadDone_decoded (u : State) (k : Nat) (e : OpenEntry) (op : ArrayOp)
    (outstanding : u.entryOp k = some (e, op)) (work : e.work = .patrol) (reading : e.state = .reading)
    (decoded : op.kind = .readLine true) :
    u.patrolReadDone k = (u.finishOp op).patrolOutcome k e (u.decodedRead op.phys) := by
  simp only [State.patrolReadDone, outstanding, work, reading, decoded]

/-- The completion of a scrub or poison write ends the entry (R114). -/
theorem State.scrubWriteDone_ends (u : State) (k : Nat) (e : OpenEntry) (op : ArrayOp)
    (outstanding : u.entryOp k = some (e, op)) (work : e.work = .patrol) (writeback : e.state = .writeback) :
    u.scrubWriteDone k = (u.finishOp op).endPatrolEntry k := by
  simp only [State.scrubWriteDone, outstanding, work, writeback]

/-- The source of a patrol record, with a candidate (R113). -/
theorem State.patrolSource_some (u : State) (c : PatrolLine) (candidate : u.patrol.candidate = some c) :
    u.patrolSource = if c.owner = .scrub then .scrub else .patrol := by
  rw [State.patrolSource, candidate]

/-- The entry writes poison after its completion, at its place (R77, R113). -/
theorem State.served_poisons (v u : State) (k : Nat) (x : OpenEntry) (op : ArrayOp) (ps : Ports) (rs : List Response)
    (l : Loc) (line : Nat) (olt : v.olt = u.olt) :
    let w := ((v.served u op ps rs).issuePoison l line (.engine k)).putOpen k x
    u.opDone w op [u.poisonOp l line (.engine k)] u.aif.injection ∧
    w = { v with aif := w.aif, freeReads := w.freeReads, ports := ps, responses := rs
                 olt := { order := u.olt.order, slots := u.olt.slots.set k (some x) } } := by
  rw [← olt]
  exact ⟨⟨rfl, rfl⟩, rfl⟩

/-- A state whose ports and responses are still those of the completion keeps its own. -/
theorem State.served_own (v u : State) (op : ArrayOp) (ports : v.ports = u.ports) (responses : v.responses = u.responses) :
    v.served u op u.ports u.responses = v.served u op v.ports v.responses := by
  rw [ports, responses]

section
variable (u : State) (k : Nat) (e : OpenEntry) (op : ArrayOp) (r : LineRead)

/-- A CLEAN line ends the entry (R113). -/
theorem State.patrolOutcome_clean (clean : r.outcome = .clean) :
    (u.finishOp op).patrolOutcome k e r =
      ((u.count .patrolLines).served u op u.ports u.responses).endPatrolEntry k := by
  simp only [State.patrolOutcome, clean, State.finishOp_served, State.served_count]

/-- A POISONED line is counted and ends the entry (R113). -/
theorem State.patrolOutcome_poisoned (poisoned : r.outcome = .poisoned) :
    (u.finishOp op).patrolOutcome k e r =
      (((u.count .patrolLines).count .poisonSeen).served u op u.ports u.responses).endPatrolEntry k := by
  simp only [State.patrolOutcome, poisoned, State.finishOp_served, State.served_count]

/-- A CORRECTED line is reported and scrubbed (R113). -/
theorem State.patrolOutcome_corrected (corrected : r.outcome = .corrected) :
    (u.finishOp op).patrolOutcome k e r = ((((u.count .patrolLines).reportCorrected u.patrolSource e.line e.loc
      r.corrected).served u op u.ports u.responses).issueWrite e.loc e.line r.data (.engine k)).putOpen k
        { e with state := .writeback, result := some { outcome := r.outcome, corrected := r.corrected } } := by
  simp only [State.patrolOutcome, corrected, State.finishOp_served, State.served_count, State.served_reportCorrected]
  rfl

/-- An UNCORRECTABLE line is reported; POISON_ON_UE poisons it, and otherwise the entry ends (R113). -/
theorem State.patrolOutcome_uncorrectable (uncorrectable : r.outcome = .uncorrectable) :
    let v := ((u.count .patrolLines).reportUncorrectable u.patrolSource e.line e.loc r.errors).served u op u.ports
      u.responses
    (u.finishOp op).patrolOutcome k e r =
      if u.policy.poisonOnUe then (v.issuePoison e.loc e.line (.engine k)).putOpen k
        { e with state := .writeback, result := some { outcome := r.outcome, corrected := r.corrected } }
      else v.endPatrolEntry k := by
  have policy (v : State) (same : v.policy = u.policy) : v.policy.poisonOnUe = u.policy.poisonOnUe := by rw [same]
  simp only [State.patrolOutcome, uncorrectable, State.finishOp_served, State.served_count,
    State.served_reportUncorrectable]
  rw [policy _ (by simp [State.served])]
  rfl

end

/-- Settles O24: the report does not look at the operation that has completed; the entry leaves before the Patrol Unit
goes on. -/
theorem patrolCompletions : Obligations.PatrolCompletions := by
  refine ⟨?_, ?_⟩
  · intro u rests
    refine ⟨fun background => ?_, fun scrub => ?_, ?_⟩
    · simp only [State.patrolEntryRemoved, background]
      rfl
    · simp only [State.patrolEntryRemoved, scrub]
      rfl
    intro r running apart found
    have found_iff (l : Nat) : found l ↔ qualifies Region.scrubbed u.regions.entries r.cursor l := by
      simp only [found, qualifies_iff, Region.scrubbed, decide_eq_true_eq]
    clear_value found
    simp only [found_iff]
    exact ⟨fun l here lowest inside => u.scrubStep_choose r l running apart here lowest inside,
      fun past => u.scrubStep_end r running apart past⟩
  intro s k e op l c u outstanding work place candidate r src ends writes bad
  have readRow : exec (.patrolReadComplete k) s = .next (u.patrolReadDone k) := rfl
  have writeRow : exec (.scrubWriteComplete k) s = .next (u.scrubWriteDone k) := rfl
  clear_value u
  have leaves (i : Instr) (v : State) (free : ∀ m, e.state ≠ .blocked (.entry m)) (olt : v.olt = u.olt)
      (ports : v.ports = u.ports) (responses : v.responses = u.responses)
      (row : exec i s = .next ((v.served u op u.ports u.responses).endPatrolEntry k)) : ends i v := by
    obtain ⟨left, done, rest⟩ := State.served_leaves v u k e op v.ports v.responses outstanding free olt
    rw [← ports, ← responses] at row
    exact ⟨_, row, left, done, rest⟩
  refine ⟨fun reading decoded => ?_, fun writeback => ?_⟩
  · have outcome := readRow.trans (congrArg _ (u.patrolReadDone_decoded k e op outstanding work reading decoded))
    have free (m : Nat) : e.state ≠ .blocked (.entry m) := by simp [reading]
    let x : OpenEntry := { e with
      state := .writeback, result := some { outcome := r.outcome, corrected := r.corrected } }
    have source : src = u.patrolSource := (u.patrolSource_some c candidate).symm
    refine ⟨fun clean => ?_, fun poisoned => ?_, fun corrected => ?_, fun uncorrectable on => ?_,
      fun uncorrectable off => ?_⟩
    · rw [u.patrolOutcome_clean k e op r clean] at outcome
      exact leaves _ _ free rfl rfl rfl outcome
    · rw [u.patrolOutcome_poisoned k e op r poisoned] at outcome
      exact leaves _ _ free rfl rfl rfl outcome
    · have own := State.served_own ((u.count .patrolLines).reportCorrected src e.line l r.corrected) u op (by simp)
        (by simp)
      obtain ⟨done, table, rest⟩ := State.served_writes
        ((u.count .patrolLines).reportCorrected src e.line l r.corrected) u k x op _ _ l e.line r.data (by simp)
      rw [u.patrolOutcome_corrected k e op r corrected, e.loc_eq l place, ← source, own] at outcome
      rw [table] at rest
      exact ⟨_, outcome, done, rest⟩
    · have own := State.served_own ((u.count .patrolLines).reportUncorrectable src e.line l r.errors) u op (by simp)
        (by simp)
      obtain ⟨done, rest⟩ := State.served_poisons
        ((u.count .patrolLines).reportUncorrectable src e.line l r.errors) u k x op _ _ l e.line (by simp)
      rw [u.patrolOutcome_uncorrectable k e op r uncorrectable, if_pos on, e.loc_eq l place, ← source, own] at outcome
      exact ⟨_, outcome, done, rest⟩
    · rw [u.patrolOutcome_uncorrectable k e op r uncorrectable, if_neg (by simp [off]), e.loc_eq l place, ← source]
        at outcome
      exact leaves _ bad free (by simp [bad]) (by simp [bad]) (by simp [bad]) outcome
  · exact leaves _ u (by simp [writeback]) rfl rfl rfl
      (writeRow.trans (congrArg _ (u.scrubWriteDone_ends k e op outstanding work writeback)))

end Sys2Proof.Machine
end

section
/-!
PROOFS. The two policies that follow an uncorrectable demand outcome (R85, R86): the offer of RETIRE_ON_UE, and the
effects of entry to HALTED block by block (R54, R102, R118, R168, R179 to R181).
-/

namespace Sys2Proof.Machine

/-! ## RETIRE_ON_UE (R85) -/

/-- An offer for a line that is queued or copied is answered ALREADY_PENDING (R101). -/
theorem State.rtqAnswer_pending (u : State) (line : Nat)
    (pending : (∃ i ∈ u.rtq, i.line = line) ∨ u.lineCopying line = true) : u.rtqAnswer line = .alreadyPending := by
  unfold State.rtqAnswer
  split
  · rfl
  next absent =>
    have copied := pending.resolve_left fun ⟨i, mem, same⟩ => absent (List.any_eq_true.2 ⟨i, mem, by simpa using same⟩)
    rw [if_pos copied]

/-- Any other offer is accepted while a position is free, and else finds the queue full (R101). -/
theorem State.rtqAnswer_fresh (u : State) (line : Nat) (fresh : ∀ i ∈ u.rtq, i.line ≠ line)
    (settled : u.lineCopying line = false) :
    u.rtqAnswer line = if u.rtq.length < 8 then .accepted else .queueFull := by
  rw [State.rtqAnswer, if_neg (by simpa using fresh), if_neg (by simp [settled])]

/-! ## The record of the halt (R179) -/

/-- The state with the halt's record offered and its cause latched, in HALTED (R179). -/
def State.halting (u : State) (line : Nat) : State :=
  { u.offer (haltedRecord line) with
    ctl := { u.ctl with state := .halted, haltReason := .ueOnDemand }
    irq := (u.offer (haltedRecord line)).irq.with .halted }

/-- The halt's record and cause leave every other block as it is. -/
@[simp] theorem State.halting_frame (u : State) (line : Nat) :
    (u.halting line).pins = u.pins ∧ (u.halting line).aif = u.aif ∧ (u.halting line).lrt = u.lrt ∧
    (u.halting line).pool = u.pool ∧ (u.halting line).copy = u.copy ∧ (u.halting line).olt = u.olt ∧
    (u.halting line).policy = u.policy ∧ (u.halting line).suspects = u.suspects ∧ (u.halting line).rtq = u.rtq ∧
    (u.halting line).patrol = u.patrol ∧ (u.halting line).regions = u.regions ∧ (u.halting line).ports = u.ports ∧
    (u.halting line).arbiter = u.arbiter ∧ (u.halting line).cmd = u.cmd ∧
    (u.halting line).responses = u.responses ∧ (u.halting line).freeReads = u.freeReads ∧
    (u.halting line).pending = u.pending := by
  simp [State.halting]

/-- The effects of entry to HALTED, in their order (R180, R181; log entry 20). -/
def State.haltEffects (v : State) : State := v.haltPorts.haltTable.copyHalt.patrolHalt.haltRtq.haltStop

theorem State.enterHalted_eq (u : State) (line : Nat) : u.enterHalted line = (u.halting line).haltEffects := by
  have keeps : KeepsReports (fun v : State => v.setCtl { u.ctl with state := .halted, haltReason := .ueOnDemand }) :=
    fun _ _ _ _ => rfl
  simp only [State.enterHalted]
  rw [keeps.offer u (haltedRecord line)]
  rfl

/-- An offer latches no cause but MAJOR and LOST, and changes no enable (R127, R130). -/
theorem State.offer_irq (u : State) (r : Record) :
    (u.offer r).irq.latched.get .cmdDone = u.irq.latched.get .cmdDone ∧ (u.offer r).irq.enable = u.irq.enable ∧
    (u.offer r).irq.enableRecord = u.irq.enableRecord := by
  have append (v : State) (rs : List Record) :
      (v.appendRecord rs r).irq.latched.get .cmdDone = v.irq.latched.get .cmdDone ∧
      (v.appendRecord rs r).irq.enable = v.irq.enable ∧ (v.appendRecord rs r).irq.enableRecord = v.irq.enableRecord := by
    simp only [State.appendRecord]
    split <;> simp
  unfold State.offer
  split
  · simp
  split
  · exact append u _
  split
  · simp
  split
  · simpa using append ((u.count .lostMinor).latch .lost) _
  · simp

/-- One more cause latched. -/
theorem Interrupts.with_get (q : Interrupts) (c d : Cause) :
    (q.with c).latched.get d = (decide (d = c) || q.latched.get d) ∧ (q.with c).enable = q.enable ∧
    (q.with c).enableRecord = q.enableRecord := by
  refine ⟨?_, rfl, rfl⟩
  cases c <;> cases d <;> simp [Interrupts.with, Latches.latch, Latches.get]

/-- A change that ends a command or not latches no cause but CMD_DONE, and changes no enable (R192). -/
theorem EndsWhen.causes {s t : State} {P : Prop} (h : EndsWhen s t P) :
    (∀ c, c ≠ .cmdDone → t.irq.latched.get c = s.irq.latched.get c) ∧ (P → t.irq.latched.get .cmdDone = true) ∧
    (¬ P → t.irq.latched.get .cmdDone = s.irq.latched.get .cmdDone) ∧ t.irq.enable = s.irq.enable ∧
    t.irq.enableRecord = s.irq.enableRecord := by
  obtain ⟨ended, unended⟩ := h
  by_cases p : P
  · rw [(ended p).2]
    exact ⟨fun c other => by simp [(s.irq.with_get .cmdDone c).1, other],
      fun _ => by simp [(s.irq.with_get .cmdDone .cmdDone).1], fun not => absurd p not, rfl, rfl⟩
  · rw [(unended p).2]
    exact ⟨fun _ _ => rfl, fun yes => absurd yes p, fun _ => rfl, rfl, rfl⟩

section
variable (v : State)

/-- What the effects of a halt leave as it is. -/
@[simp] theorem State.haltEffects_frame :
    v.haltEffects.pins = v.pins ∧ v.haltEffects.aif = v.aif ∧ v.haltEffects.policy = v.policy ∧
    v.haltEffects.erq = v.erq ∧ v.haltEffects.regions = v.regions ∧ v.haltEffects.ctl = v.ctl ∧
    v.haltEffects.counters = v.counters ∧ v.haltEffects.freeReads = v.freeReads ∧
    v.haltEffects.pending = v.pending := by
  simp [State.haltEffects]

/-! ## The ports (R168) -/

/-- A halt answers a port's entries and requests on that port. -/
theorem State.haltAnswers_port (p : PortId) (r : Response) (mem : r ∈ v.haltAnswers p) : r.port = p := by
  rcases List.mem_append.1 mem with blocked | queued
  · obtain ⟨k, -, answer⟩ := List.mem_filterMap.1 blocked
    obtain ⟨e, -, answer⟩ := Option.bind_eq_some_iff.1 answer
    unfold OpenEntry.haltAnswer at answer
    split at answer <;> try contradiction
    split at answer <;> try contradiction
    all_goals
      split at answer
      · cases answer
        rfl
      · cases answer
  · obtain ⟨q, -, rfl⟩ := List.mem_map.1 queued
    rfl

/-- Of the answers to one port, those on another are none. -/
theorem State.haltAnswers_filter (p q : PortId) :
    (v.haltAnswers q).filter (fun r => r.port = p) = if q = p then v.haltAnswers q else [] := by
  split
  next same => exact List.filter_eq_self.2 fun r mem => by simp [v.haltAnswers_port q r mem, same]
  next other => exact List.filter_eq_nil_iff.2 fun r mem => by simp [v.haltAnswers_port q r mem, other]

/-- The responses of a port after a halt (R168). -/
theorem State.haltEffects_responses (p : PortId) : v.haltEffects.responses.filter (fun r => r.port = p) =
    v.responses.filter (fun r => r.port = p) ++ v.haltAnswers p := by
  have answered : v.haltEffects.responses = v.responses ++ v.haltAnswers .p0 ++ v.haltAnswers .p1 ++
      v.haltAnswers .p2 ++ v.haltAnswers .p3 := by
    simp [State.haltEffects, State.haltPorts]
  rw [answered]
  simp only [List.filter_append, v.haltAnswers_filter]
  cases p <;> simp

/-- A port after a halt: nothing queued, and the tags of its answers released (R168). -/
theorem State.haltEffects_ports (p : PortId) : v.haltEffects.ports.get p = {
    queue := [], tags := (v.ports.get p).tags.filter (fun g => decide (∀ r ∈ v.haltAnswers p, r.tag ≠ g)) } := by
  have after : v.haltEffects.ports.get p = (v.ports.get p).afterAnswers (v.haltAnswers p) := by
    simp only [State.haltEffects, State.haltStop_frame, State.haltRtq_frame, State.patrolHalt_frame,
      State.copyHalt_frame, State.haltTable_frame]
    cases p <;> rfl
  rw [after, Port.afterAnswers]
  congr 1
  refine List.filter_congr fun g _ => ?_
  rw [Bool.eq_iff_iff]
  simp

/-! ## The table (R180) -/

/-- The abort of the current item leaves the table's order, and makes every entry follow (R53). -/
theorem State.copyHalt_follows : v.copyHalt.olt.order = v.olt.order ∧ ∀ k,
    (v.entryAt k = none → v.copyHalt.entryAt k = none) ∧
    ∀ e, v.entryAt k = some e → ∃ f, v.copyHalt.entryAt k = some f ∧ e.follows f := by
  cases item : v.copy.item with
  | none =>
    have same : v.copyHalt = v := by simp only [State.copyHalt, item]
    rw [same]
    exact ⟨rfl, fun k => ⟨id, fun e found => ⟨e, found, e.follows_self⟩⟩⟩
  | some i =>
    have olt : v.copyHalt.olt = { v.olt with slots := v.olt.slots.map releaseHold } := by
      simp [State.copyHalt, item, State.endItem]
    have at_ (k : Nat) : v.copyHalt.entryAt k = releaseHold (v.entryAt k) := by
      simp only [State.entryAt, olt, List.getD_eq_getElem?_getD, List.getElem?_map]
      cases v.olt.slots[k]? <;> rfl
    refine ⟨by rw [olt], fun k => ⟨fun empty => by rw [at_, empty]; rfl, fun e found => ?_⟩⟩
    rw [at_, found]
    exact releaseHold_follows e

/-- The table after a halt (R180). -/
theorem State.haltEffects_table (chained : v.Chained) :
    (∀ k, v.entryAt k = none → v.haltEffects.entryAt k = none) ∧
    (∀ k e, v.entryAt k = some e → e.haltRemoves = true → v.haltEffects.entryAt k = none) ∧
    (∀ k e, v.entryAt k = some e → e.haltRemoves = false →
      ∃ f, v.haltEffects.entryAt k = some f ∧ e.follows f) ∧
    v.haltEffects.olt.order = v.olt.order.filter (fun k => (v.haltEffects.entryAt k).isSome) := by
  let s := v.haltPorts
  let w := s.haltTable
  have entries (k : Nat) : v.haltEffects.entryAt k = w.copyHalt.entryAt k :=
    State.entryAt_of_olt (by simp [State.haltEffects, s, w]) k
  have order : v.haltEffects.olt.order = w.olt.order := by
    rw [← w.copyHalt_follows.1]
    simp [State.haltEffects, s, w]
  have before (k : Nat) : s.entryAt k = v.entryAt k := State.entryAt_of_olt (by simp [s]) k
  have keptOrder : s.olt.order = v.olt.order := by simp [s]
  obtain ⟨empty, gone, stays, table⟩ := s.haltTable_spec (keptOrder ▸ chained.once)
    (fun k mem => by rw [before]; exact (chained.listed k).1 (keptOrder ▸ mem))
    (fun k e found => keptOrder ▸ (chained.listed k).2 (by rw [← before, found]; rfl))
  simp only [before] at empty gone stays
  simp only [entries, order]
  refine ⟨fun k absent => (w.copyHalt_follows.2 k).1 (empty k absent),
    fun k e found removes => (w.copyHalt_follows.2 k).1 (gone k e found removes), fun k e found keeps => ?_, ?_⟩
  · obtain ⟨f, at_, follows⟩ := stays k e found keeps
    obtain ⟨g, now, after⟩ := (w.copyHalt_follows.2 k).2 f at_
    exact ⟨g, now, e.follows_trans f g follows after⟩
  · rw [table, keptOrder]
    refine List.filter_congr fun k _ => ?_
    cases found : w.entryAt k with
    | none => rw [(w.copyHalt_follows.2 k).1 found]
    | some f =>
      obtain ⟨g, now, -⟩ := (w.copyHalt_follows.2 k).2 f found
      rw [now]
      rfl

/-! ## The Copy Unit (R54) -/

/-- An abort looks at the remap table and the spare pool alone (R35). -/
theorem State.abortEntry_congr (w : State) (line : Nat) (x : SpareState) (lrt : w.lrt = v.lrt) (pool : w.pool = v.pool) :
    (w.abortEntry line x).lrt = (v.abortEntry line x).lrt ∧ (w.abortEntry line x).pool = (v.abortEntry line x).pool := by
  have found : w.entryOf line = v.entryOf line := by rw [State.entryOf, State.entryOf, lrt]
  unfold State.abortEntry
  rw [found]
  split
  · exact ⟨lrt, pool⟩
  · split <;> simp [State.setSpare, lrt, pool]

/-- The abort of the current item: what becomes of the Copy Unit, the remap table and the spare pool (R54). -/
theorem State.haltEffects_copy (i : RetireItem) (item : v.copy.item = some i) :
    v.haltEffects.copy = v.copy.ended ∧ v.haltEffects.lrt = (v.abortEntry i.line .free).lrt ∧
    v.haltEffects.pool = (v.abortEntry i.line .free).pool := by
  let w := v.haltPorts.haltTable
  have here : w.copy.item = some i := by simpa [w] using item
  have halted : w.copyHalt = (w.abortEntry i.line .free).endItem i .aborted := by simp only [State.copyHalt, here]
  have copy : w.copy = v.copy := by simp [w]
  have lrt : w.lrt = v.lrt := by simp [w]
  have pool : w.pool = v.pool := by simp [w]
  have abort := State.abortEntry_congr v w i.line .free lrt pool
  simp only [State.haltEffects, State.haltStop_frame, State.haltRtq_frame, State.patrolHalt_frame]
  rw [show v.haltPorts.haltTable.copyHalt = _ from halted]
  exact ⟨by simp [State.endItem, copy], by simpa using abort.1, by simpa using abort.2⟩

/-- Without an item the halt leaves the Copy Unit, the remap table and the spare pool. -/
theorem State.haltEffects_copy_none (item : v.copy.item = none) :
    v.haltEffects.copy = v.copy ∧ v.haltEffects.lrt = v.lrt ∧ v.haltEffects.pool = v.pool := by
  have same : v.haltPorts.haltTable.copyHalt = v.haltPorts.haltTable := by simp [State.copyHalt, item]
  simp [State.haltEffects, same]

/-! ## The Patrol Unit (R118, R119) -/

/-- The Patrol Unit and its wait count are changed by the patrol's own effect alone. -/
theorem State.haltEffects_patrol : v.haltEffects.patrol = v.patrolHalt.patrol ∧
    v.haltEffects.arbiter = v.patrolHalt.arbiter := by
  have patrol : v.haltPorts.haltTable.copyHalt.patrol = v.patrol := by simp
  simp only [State.haltEffects, State.haltStop_frame, State.haltRtq_frame]
  unfold State.patrolHalt State.patrolLeaveRunning State.clearWait
  rw [patrol]
  cases v.patrol.scrub with
  | none =>
    by_cases issuing : v.patrol.state = .issuing
    · simp [issuing]
    · simp [issuing]
  | some r =>
    simp only [State.completeCommand_frame, patrol]
    by_cases issuing : v.patrol.state = .issuing
    · simp [issuing]
    · simp [issuing]

/-- Without a targeted scrub a candidate is withdrawn, and the cursor is set back to its line (R119). -/
theorem State.patrolHalt_background (c : PatrolLine) (background : v.patrol.scrub = none)
    (issuing : v.patrol.state = .issuing) (candidate : v.patrol.candidate = some c) :
    v.patrolHalt.patrol = { v.patrol with
      state := .waiting, timer := some v.patrol.interval, candidate := none, cursor := c.line } ∧
    v.patrolHalt.arbiter = { v.arbiter with patrolWait := 0 } := by
  simp only [State.patrolHalt, background, State.patrolLeaveRunning, if_pos issuing, PatrolUnit.setBack, candidate]
  exact ⟨rfl, rfl⟩

/-- Without a candidate the patrol runs on (R119). -/
theorem State.patrolHalt_idle (background : v.patrol.scrub = none) (idle : v.patrol.state ≠ .issuing) :
    v.patrolHalt = v := by
  simp only [State.patrolHalt, background, State.patrolLeaveRunning, if_neg idle]

/-- A targeted scrub ends, and its candidate is withdrawn (R118). -/
theorem State.patrolHalt_scrub (r : ScrubRange) (scrub : v.patrol.scrub = some r) :
    let p : PatrolUnit := { v.patrol with scrub := none, activity := .background }
    (v.patrol.state = .issuing →
      v.patrolHalt.patrol = p.rest ∧ v.patrolHalt.arbiter = { v.arbiter with patrolWait := 0 }) ∧
    (v.patrol.state ≠ .issuing → v.patrolHalt.patrol = p ∧ v.patrolHalt.arbiter = v.arbiter) := by
  have same : (v.completeCommand .aborted).patrol = v.patrol := rfl
  refine ⟨fun issuing => ?_, fun idle => ?_⟩
  · simp only [State.patrolHalt, scrub, same, if_pos issuing]
    exact ⟨rfl, rfl⟩
  · simp only [State.patrolHalt, scrub, same, if_neg idle]
    exact ⟨rfl, rfl⟩

/-! ## The Retirement Queue (R102) -/

/-- Without a queued command item the halt leaves the queue and the Suspect List. -/
theorem State.haltEffects_rtq_none (free : ¬ ∃ i ∈ v.rtq, i.command = true) :
    v.haltEffects.rtq = v.rtq ∧ v.haltEffects.suspects = v.suspects := by
  have rtq : v.haltPorts.haltTable.copyHalt.patrolHalt.rtq = v.rtq := by simp
  have same : v.haltPorts.haltTable.copyHalt.patrolHalt.haltRtq = v.haltPorts.haltTable.copyHalt.patrolHalt := by
    rw [State.haltRtq, rtq, if_neg (by simpa using free)]
  simp [State.haltEffects, same]

/-- A queued command item leaves, and the re-offers follow, with the remap table after the abort (R102). -/
theorem State.haltEffects_rtq (queued : ∃ i ∈ v.rtq, i.command = true) (q : List RetireItem)
    (kept : q = v.rtq.filter (fun i => !i.command)) :
    let w : State := ({ v.haltEffects with rtq := q, suspects := v.suspects } : State).reoffer
    v.haltEffects.rtq = w.rtq ∧ v.haltEffects.suspects = w.suspects := by
  subst kept
  have rtq : v.haltPorts.haltTable.copyHalt.patrolHalt.rtq = v.rtq := by simp
  have ends : v.haltPorts.haltTable.copyHalt.patrolHalt.haltRtq =
      ((v.haltPorts.haltTable.copyHalt.patrolHalt.setRtq (v.rtq.filter fun i => !i.command)).completeCommand
        .aborted).reoffer := by
    rw [State.haltRtq, rtq, if_pos (by simpa using queued)]
  have offers := State.reoffer_congr
    ({ v.haltEffects with rtq := v.rtq.filter (fun i => !i.command), suspects := v.suspects } : State)
    ((v.haltPorts.haltTable.copyHalt.patrolHalt.setRtq (v.rtq.filter fun i => !i.command)).completeCommand .aborted)
    (by simp) (by simp) (by simp [State.haltEffects])
  rw [← ends] at offers
  simpa [State.haltEffects] using offers

end

/-! ## The obligation -/

/-- Settles O34: the halt's record comes first, and each of its effects writes blocks of its own. -/
theorem policiesAfterUncorrectable : Obligations.PoliciesAfterUncorrectable := by
  refine ⟨fun u line => ⟨fun off => ?_, fun on => ⟨fun pending => ?_, fun fresh settled =>
    ⟨fun room => ?_, fun full => ?_⟩⟩⟩, fun u line => ⟨fun stays => ?_, ?_⟩⟩
  · simp [State.retireOnUe, off]
  · simp [State.retireOnUe, on, u.rtqAnswer_pending line pending]
  · simp [State.retireOnUe, on, u.rtqAnswer_fresh line fresh settled, room]
    rfl
  · simp [State.retireOnUe, on, u.rtqAnswer_fresh line fresh settled, full]
  · rw [State.haltOnUe, if_neg]
    rcases stays with off | away
    · simp [off]
    · simp [away]
  intro on runs sound
  have entered : u.haltOnUe line = (u.halting line).haltEffects := by
    rw [State.haltOnUe, if_pos (by simp [on, runs]), u.enterHalted_eq]
  rw [entered]
  intro t recorded blockedAnswer answers leaves kept commanded aborts restored rests
  let v := u.halting line
  have chained : v.Chained := (u.openSound_iff.1 sound).chained.same (by simp [v])
  have blocked (p : PortId) : blockedAnswer p = fun e => e.haltAnswer p := by
    funext e
    simp only [blockedAnswer, OpenEntry.haltAnswer]
    cases e.state <;> cases e.work <;> rfl
  have answered (p : PortId) : answers p = v.haltAnswers p := by
    simp only [answers, blocked, State.haltAnswers]
    simp [v, State.entryAt, queuedHaltAnswer]
  have entry (k : Nat) : u.entryAt k = v.entryAt k := (State.entryAt_of_olt (by simp [v]) k).symm
  have halts : EndsWhen v t aborts := by
    have ends := v.halt_ends
    simp only [v, State.halting_frame] at ends
    exact ends
  obtain ⟨others, latched, unlatched, enable, enableRecord⟩ := halts.causes
  obtain ⟨offeredCmdDone, offeredEnable, offeredRecord⟩ := u.offer_irq (haltedRecord line)
  obtain ⟨empty, gone, follows, order⟩ := v.haltEffects_table chained
  have unit : v.patrol = u.patrol := by simp [v]
  have waits : v.arbiter = u.arbiter := by simp [v]
  have queue : v.rtq = u.rtq := by simp [v]
  have suspects : v.suspects = u.suspects := by simp [v]
  have haltedCause := recorded.irq.with_get .halted
  have removes (e : OpenEntry) : leaves e ↔ e.haltRemoves = true := by
    simp [leaves, e.haltRemoves_eq]
  refine ⟨by simp [t]; rfl, by simp [t]; rfl, by simp [t]; rfl, fun c other here => ?_, ?_, latched, fun a => ?_,
    enable.trans offeredEnable, enableRecord.trans offeredRecord, fun p => ?_, fun p => ?_, fun k e found out => ?_,
    fun k e found array => ?_, fun k e found patrol => ?_, fun k found => ?_, ?_, fun idle => ?_, fun i item => ?_,
    fun background => ?_, fun r scrub => ?_, fun free => ?_, fun queued => ?_, fun a => ?_, fun a => ?_,
    by simp [t], by simp [t], by simp [t], by simp [t], by simp [t], by simp [t]⟩
  · rw [others c here]
    exact (haltedCause c).1.trans (by simp [other])
  · rw [others .halted (by simp)]
    exact (haltedCause .halted).1.trans (by simp)
  · rw [unlatched a]
    exact (haltedCause .cmdDone).1.trans offeredCmdDone
  · rw [answered, ← show v.responses = u.responses by simp [v]]
    exact v.haltEffects_responses p
  · rw [answered, ← show v.ports = u.ports by simp [v]]
    exact v.haltEffects_ports p
  · exact gone k e (entry k ▸ found) ((removes e).1 out)
  · obtain ⟨f, now, -, same⟩ := follows k e (entry k ▸ found) (by simp [e.haltRemoves_eq, array])
    rw [← same array]
    exact now
  · obtain ⟨f, now, ⟨st, same⟩, -⟩ := follows k e (entry k ▸ found) (by simp [e.haltRemoves_eq, patrol])
    exact ⟨st, same ▸ now⟩
  · exact empty k (entry k ▸ found)
  · rw [← show v.olt = u.olt by simp [v]]
    exact order
  · have := v.haltEffects_copy_none (by simpa [v] using idle)
    simpa [v, t] using this
  · obtain ⟨copy, lrt, pool⟩ := v.haltEffects_copy i (by simpa [v] using item)
    obtain ⟨table, spares⟩ := State.abortEntry_congr u v i.line .free (by simp [v]) (by simp [v])
    rw [table] at lrt
    rw [spares] at pool
    refine ⟨copy.trans (by simp [v]; rfl), fun e found =>
      ⟨fun g state => ?_, fun c g m state => ?_, fun c m state => ?_⟩⟩
    all_goals
      simp only [State.abortEntry, found, state] at lrt pool
      exact ⟨lrt, pool⟩
  · obtain ⟨patrol, arbiter⟩ := v.haltEffects_patrol
    rw [← unit] at background
    rw [← unit, ← waits, show t.patrol = _ from patrol, show t.arbiter = _ from arbiter]
    exact ⟨fun c => v.patrolHalt_background c background, fun idle => by simp [v.patrolHalt_idle background idle]⟩
  · obtain ⟨patrol, arbiter⟩ := v.haltEffects_patrol
    rw [← unit] at scrub
    rw [← unit, ← waits, show t.patrol = _ from patrol, show t.arbiter = _ from arbiter]
    exact v.patrolHalt_scrub r scrub
  · have same := v.haltEffects_rtq_none (by rw [queue]; exact free)
    rwa [queue, suspects] at same
  · have offers := v.haltEffects_rtq (by rw [queue]; exact queued) kept (by rw [queue])
    rwa [suspects] at offers
  · rw [(halts.1 a).1]
    simp [v]
  · rw [(halts.2 a).1]
    simp [v]

end Sys2Proof.Machine
end

section
/-!
PROOFS. What is due is performed to the end before a command acts (log entry 3): each issue leaves one entry fewer that
may still become due, each item start one item or suspect fewer, and the end of a fill, a drain or a STOP leaves nothing
due.
-/

namespace Sys2Proof.Machine

/-! ## Issues (R67, R68) -/

/-- The entry waits for its turn, or for an older entry. -/
def OpenEntry.mayIssue (e : OpenEntry) : Bool :=
  match e.state with
  | .blocked (.entry _) | .blocked .turn => true
  | .blocked .copyHold | .reading | .writing | .writeback => false

/-- How many entries may still become due. -/
def OpenTable.waiting (t : OpenTable) : Nat := t.slots.countP (fun e => e.any OpenEntry.mayIssue)

theorem retarget_mayIssue (k : Nat) (e : Option OpenEntry) :
    (retarget k .turn e).any OpenEntry.mayIssue = e.any OpenEntry.mayIssue := by
  cases e with
  | none => rfl
  | some e =>
    by_cases waits : e.state = .blocked (.entry k)
    · simp [retarget, waits, OpenEntry.mayIssue]
    · simp [retarget, waits]

section
variable (s : State) (k : Nat) (e : OpenEntry) (found : s.entryAt k = some e) (turn : e.state = .blocked .turn)
include found turn

/-- With the entry of a slot replaced by one that is not waiting, one entry fewer waits. -/
theorem State.waiting_set (x : Option OpenEntry) (rests : x.any OpenEntry.mayIssue = false) :
    (s.olt.slots.set k x).countP (fun e => e.any OpenEntry.mayIssue) + 1 = s.olt.waiting := by
  have inside := s.entryAt_lt k e found
  have here : s.olt.slots[k] = some e := by
    simpa [State.entryAt, List.getD_eq_getElem?_getD, List.getElem?_eq_getElem inside] using found
  have waits : e.mayIssue = true := by simp [OpenEntry.mayIssue, turn]
  have some_waiting : 0 < s.olt.slots.countP (fun e => e.any OpenEntry.mayIssue) :=
    List.countP_pos_iff.2 ⟨some e, here ▸ List.getElem_mem inside, by simpa using waits⟩
  rw [List.countP_set inside, here, OpenTable.waiting]
  simp only [rests, Option.any_some, waits, if_true]
  simp
  omega

/-- The entry leaves, and the turn of its waiter comes (R67). -/
theorem State.waiting_removeEntry (v : State) (olt : v.olt = s.olt) :
    (v.removeEntry k).olt.waiting + 1 = s.olt.waiting := by
  have hand : e.handOver = .turn := e.handOver_turn (by simp [turn])
  have there : v.entryAt k = some e := (State.entryAt_of_olt olt k).trans found
  rw [← s.waiting_set k e found turn none rfl]
  simp only [State.removeEntry, there, hand, State.setOlt_olt, OpenTable.waiting, List.countP_map, Function.comp_def,
    retarget_mayIssue, olt]

/-- The entry goes to the array, or waits on the copy hold. -/
theorem State.waiting_putOpen (v : State) (x : OpenEntry) (olt : v.olt = s.olt) (rests : x.mayIssue = false) :
    (v.putOpen k x).olt.waiting + 1 = s.olt.waiting := by
  rw [← s.waiting_set k e found turn (some x) (by simpa using rests), State.putOpen, State.setOlt_olt, olt]
  rfl

end

/-- An issue leaves one entry fewer that may still become due (R68, R69). -/
theorem State.waiting_issueEntry (s : State) (k : Nat) (due : s.slotDue k = true) :
    (s.issueEntry k).olt.waiting + 1 = s.olt.waiting := by
  obtain ⟨e, found, turn⟩ := s.slotDue_spec k due
  have leaves := s.waiting_removeEntry k e found turn
  have rests := s.waiting_putOpen k e found turn
  have reads (l : Loc) (decoded : Bool) : (s.issueEntryRead k e l decoded).olt.waiting + 1 = s.olt.waiting :=
    rests _ _ rfl rfl
  simp only [State.issueEntry, found]
  split
  · split
    · simpa [State.patrolSkip] using leaves s rfl
    · exact reads _ _
  · exact reads _ _
  · split
    · exact reads _ _
    · simp only [State.serveRead]
      split
      · exact leaves _ (by simp)
      · exact leaves _ (by simp)
  next mask data _ =>
    split
    · unfold State.issueArrayWrite
      split
      · exact rests _ _ (by simp) rfl
      · exact reads _ _
    · unfold State.issueBufferWrite
      split
      · exact rests _ _ rfl rfl
      · split
        · exact leaves _ (by simp)
        · exact rests _ _ (by simp) rfl

/-- A due entry is one that waits. -/
theorem State.waiting_pos (s : State) (k : Nat) (due : s.slotDue k = true) : 0 < s.olt.waiting :=
  Nat.lt_of_lt_of_eq (Nat.succ_pos _) (s.waiting_issueEntry k due)

theorem State.dueSlot_eq_none (s : State) : s.dueSlot = none ↔ ∀ k, s.slotDue k = false := by
  simp only [State.dueSlot, List.find?_eq_none, List.mem_range, Bool.not_eq_true]
  refine ⟨fun h k => ?_, fun h k _ => h k⟩
  cases due : s.slotDue k with
  | false => rfl
  | true =>
    obtain ⟨e, found, -⟩ := s.slotDue_spec k due
    exact (due.symm.trans (h k (s.entryAt_lt k e found)))

/-- As many issues as entries that may become due suffice. -/
theorem issueDue_dueSlot (n : Nat) (s : State) (enough : s.olt.waiting ≤ n) : (issueDue n s).dueSlot = none := by
  induction n generalizing s with
  | zero =>
    refine s.dueSlot_eq_none.2 fun k => Bool.eq_false_iff.2 fun due => ?_
    exact absurd (s.waiting_pos k due) (by omega)
  | succ n ih =>
    simp only [issueDue]
    cases slot : s.dueSlot with
    | none => exact slot
    | some k =>
      have fewer := s.waiting_issueEntry k (List.find?_some slot)
      exact ih _ (by omega)

theorem State.settleIssues_dueSlot (s : State) : s.settleIssues.dueSlot = none :=
  issueDue_dueSlot _ s List.countP_le_length

/-- Whether a slot is due rests on the table, and on whether the controller is in HALTED (R67). -/
theorem State.slotDue_congr (s t : State) (k : Nat) (olt : t.olt = s.olt)
    (halted : t.ctl.state = .halted ↔ s.ctl.state = .halted) : t.slotDue k = s.slotDue k := by
  simp only [State.slotDue, State.entryAt_of_olt olt, OpenEntry.issueDue, ne_eq, halted]

/-! ## Item starts (R41, R96) -/

/-- How many items and suspects stand in the two lists. -/
def State.startable (s : State) : Nat := s.rtq.length + s.suspects.entries.length

/-- Re-offers turn suspects into items: together they do not grow (R96). -/
theorem reofferLines_startable (ls : List Nat) (s : State)
    (held : ∀ line ∈ ls, (∃ e ∈ s.suspects.entries, e.line = line) ∨ s.rtqAnswer line = .alreadyPending) :
    (reofferLines ls s).startable ≤ s.startable := by
  induction ls generalizing s with
  | nil => exact Nat.le_refl _
  | cons line ls ih =>
    rw [List.forall_mem_cons] at held
    obtain ⟨here, rest⟩ := held
    simp only [reofferLines]
    cases answer : s.rtqAnswer line with
    | accepted =>
      obtain ⟨e, mem, rfl⟩ := here.resolve_right (by simp [answer])
      have shorter := dropSuspect_length_lt s.suspects.entries e mem
      simp only [State.startable, State.enqueue, State.removeSuspect_suspects]
      simp
      omega
    | queueFull => exact Nat.le_refl _
    | alreadyPending =>
      have shorter := dropSuspect_length_le s.suspects.entries line
      refine (ih (s.removeSuspect line) fun other mem => ?_).trans ?_
      · have same : (s.removeSuspect line).rtqAnswer other = s.rtqAnswer other :=
          State.rtqAnswer_congr s _ other (by simp) (by simp [State.lineCopying, State.entryOf])
        rw [same]
        by_cases equal : other = line
        · exact .inr (equal ▸ answer)
        · refine (rest other mem).imp_left fun ⟨e, there, of_line⟩ => ⟨e, ?_, of_line⟩
          simpa [there] using of_line ▸ equal
      · simp only [State.startable, State.removeSuspect_suspects]
        simp
        omega

theorem State.reoffer_startable (s : State) : s.reoffer.startable ≤ s.startable := by
  refine reofferLines_startable _ s fun line mem => .inl ?_
  obtain ⟨e, waits, of_line⟩ := List.mem_map.1 mem
  exact ⟨e, (List.mem_filter.1 waits).1, of_line⟩

/-- An item start takes an item away (R41). -/
theorem State.startItem_startable (s : State) (due : s.startDue = true) : s.startItem.startable < s.startable := by
  cases queue : s.rtq with
  | nil => simp [State.startDue, queue] at due
  | cons i rest =>
    simp only [State.startItem, queue]
    refine (State.reoffer_startable _).trans_lt ?_
    cases i.action <;> simp [State.startable, queue]

theorem startDueItems_startDue (n : Nat) (s : State) (enough : s.startable ≤ n) :
    (startDueItems n s).startDue = false := by
  induction n generalizing s with
  | zero =>
    have none_left : s.rtq = [] := List.length_eq_zero_iff.1 (by rw [State.startable] at enough; omega)
    simp [startDueItems, State.startDue, none_left]
  | succ n ih =>
    simp only [startDueItems]
    split
    next due => exact ih _ (by have := s.startItem_startable due; omega)
    next idle => simpa using idle

theorem State.settleStarts_startDue (s : State) : s.settleStarts.startDue = false :=
  startDueItems_startDue _ s (Nat.le_refl _)

/-! ## Ends (R173, R177, R178) -/

/-- In STOPPED nothing but an entry can be due. -/
theorem State.settled_of_stopped (s : State) (stopped : s.ctl.state = .stopped) (slots : s.dueSlot = none) :
    s.settled = true := by
  simp [State.settled, slots, State.startDue, State.fillEndDue, State.drainDue, State.haltedStopDue, stopped]

theorem State.entryAt_of_oltEmpty (s : State) (empty : s.oltEmpty = true) (k : Nat) : s.entryAt k = none := by
  rw [State.entryAt, List.getD_eq_getElem?_getD]
  cases slot : s.olt.slots[k]? with
  | none => rfl
  | some e => simpa using List.all_eq_true.1 empty e (List.mem_of_getElem? slot)

/-- Without a due entry or item the ends leave nothing due. -/
theorem State.settleEnds_settled (s : State) (slots : s.dueSlot = none) (starts : s.startDue = false) :
    s.settleEnds.settled = true := by
  have entered (t : State) (olt : t.olt = s.olt) (stopped : t.ctl.state = .stopped) (running : s.ctl.state ≠ .halted) :
      t.settled = true := by
    refine t.settled_of_stopped stopped (t.dueSlot_eq_none.2 fun k => ?_)
    rw [State.slotDue_congr s t k olt (by simp [stopped, running])]
    exact s.dueSlot_eq_none.1 slots k
  unfold State.settleEnds
  split
  next fill =>
    simp only [State.fillEndDue, Bool.and_eq_true, decide_eq_true_eq] at fill
    obtain ⟨⟨initializing, -⟩, -⟩ := fill
    exact entered _ rfl rfl (by simp [initializing])
  next noFill =>
    split
    next drain =>
      simp only [State.drainDue, Bool.and_eq_true, decide_eq_true_eq] at drain
      obtain ⟨draining, -⟩ := drain
      exact entered _ rfl rfl (by simp [draining])
    next noDrain =>
      split
      next stop =>
        simp only [State.haltedStopDue, Bool.and_eq_true] at stop
        obtain ⟨-, empty⟩ := stop
        refine State.settled_of_stopped _ rfl (State.dueSlot_eq_none _ |>.2 fun k => ?_)
        simp only [State.slotDue, State.entryAt_of_olt (show s.enterStopped.olt = s.olt from rfl) k,
          s.entryAt_of_oltEmpty empty k]
      next noStop => simp [State.settled, slots, starts, noFill, noDrain, noStop]

/-- Settles O2: the issues, then the starts, then the ends leave nothing due behind. -/
theorem emptyQueueSettlesAndIdles : Obligations.EmptyQueueSettlesAndIdles := by
  refine ⟨fun s empty => ?_, fun s => ?_, fun s settled => s.opened_of_settled settled⟩
  · rw [step, empty]
  · refine State.settleEnds_settled _ ?_ (State.settleStarts_startDue _)
    refine (State.dueSlot_eq_none _).2 fun k => ?_
    rw [State.slotDue_congr s.newStep.settleIssues _ k (by simp) (by simp)]
    exact (State.dueSlot_eq_none _).1 s.newStep.settleIssues_dueSlot k

end Sys2Proof.Machine
end

section
/-!
PROOFS. Every step keeps the Suspect List bounded (R90). Between an update and the answer of the Retirement Queue an
entry may stand at the threshold without waiting, so the invariant names the lines that are still to be offered.
-/

namespace Sys2Proof.Machine

/-! ## Lists of suspects -/

/-- Dropping a line that has no entry changes nothing. -/
theorem dropSuspect_absent (es : List Suspect) (line : Nat) (absent : ∀ e ∈ es, e.line ≠ line) :
    dropSuspect es line = es :=
  List.filter_eq_self.2 fun e mem => by simpa using absent e mem

/-- The list closes over the one entry of a line (R89). -/
theorem dropSuspect_middle (a b : List Suspect) (x : Suspect) (lines : ((a ++ x :: b).map (fun e => e.line)).Nodup) :
    dropSuspect (a ++ x :: b) x.line = a ++ b := by
  have order := (List.perm_middle.map Suspect.line).nodup_iff.1 lines
  have others : ∀ e ∈ a ++ b, e.line ≠ x.line := fun e mem same =>
    (List.nodup_cons.1 order).1 (List.mem_map.2 ⟨e, mem, same⟩)
  calc dropSuspect (a ++ x :: b) x.line = dropSuspect (a ++ b) x.line := by simp [dropSuspect]
    _ = a ++ b := dropSuspect_absent _ _ others

/-- What a sweep's end leaves of an entry (R98). -/
theorem Suspect.decay_eq_some (e d : Suspect) (left : e.decay = some d) :
    (e.waiting = true ∧ d = e) ∨ (e.waiting = false ∧ 1 < e.count ∧ d = { e with count := e.count - 1 }) := by
  unfold Suspect.decay at left
  split at left
  next waits => exact .inl ⟨waits, (Option.some.inj left).symm⟩
  next free =>
    split at left
    · cases left
    next more => exact .inr ⟨by simpa using free, by omega, (Option.some.inj left).symm⟩

theorem Suspect.decay_line (e d : Suspect) (left : e.decay = some d) : d.line = e.line := by
  rcases e.decay_eq_some d left with ⟨-, rfl⟩ | ⟨-, -, rfl⟩ <;> rfl

/-! ## Bounded lists, with some lines still to be offered (R90, R92) -/

/-- The invariant of R90, where the entries at the threshold are those that wait and those of the lines still to be
offered to the Retirement Queue. -/
structure SuspectList.Bounded (l : SuspectList) (offered : List Nat) : Prop where
  threshold : 1 ≤ l.threshold ∧ l.threshold ≤ 15
  lines : (l.entries.map (fun e => e.line)).Nodup
  counts : ∀ e ∈ l.entries, 1 ≤ e.count ∧ e.count ≤ l.threshold
  atThreshold : ∀ e ∈ l.entries, e.count = l.threshold ↔ e.waiting = true ∨ e.line ∈ offered

theorem State.suspectsBounded_iff (s : State) : s.suspectsBounded ↔ s.suspects.Bounded [] := by
  constructor
  · rintro ⟨low, high, lines, each⟩
    exact ⟨⟨low, high⟩, lines, fun e mem => ⟨(each e mem).1, (each e mem).2.1⟩,
      fun e mem => by simpa using (each e mem).2.2.symm⟩
  · rintro ⟨⟨low, high⟩, lines, counts, atThreshold⟩
    exact ⟨low, high, lines, fun e mem => ⟨(counts e mem).1, (counts e mem).2, by simpa using (atThreshold e mem).symm⟩⟩

theorem SuspectList.Bounded.empty {l : SuspectList} {offered : List Nat} (h : l.Bounded offered) :
    SuspectList.Bounded { l with entries := [] } [] :=
  ⟨h.threshold, List.nodup_nil, by simp, by simp⟩

theorem SuspectList.reset_bounded : SuspectList.reset.Bounded [] :=
  ⟨by decide, List.nodup_nil, by simp [SuspectList.reset], by simp [SuspectList.reset]⟩

/-- An entry leaves, and its line need not be offered any more (R95). -/
theorem SuspectList.Bounded.drop {l : SuspectList} {offered rest : List Nat} (h : l.Bounded offered) (line : Nat)
    (same : ∀ x, x ≠ line → (x ∈ offered ↔ x ∈ rest)) :
    SuspectList.Bounded { l with entries := dropSuspect l.entries line } rest where
  threshold := h.threshold
  lines := h.lines.sublist (List.filter_sublist.map _)
  counts e mem := h.counts e ((mem_dropSuspect _ _ _).1 mem).1
  atThreshold e mem := by
    obtain ⟨there, other⟩ := (mem_dropSuspect _ _ _).1 mem
    exact (h.atThreshold e there).trans (or_congr_right (same _ other))

/-- An entry whose line is to be offered waits instead (R95). -/
theorem SuspectList.Bounded.wait {l : SuspectList} {rest : List Nat} {line : Nat} (h : l.Bounded (line :: rest)) :
    SuspectList.Bounded { l with
      entries := l.entries.map (fun e => if e.line = line then { e with waiting := true } else e) } rest := by
  have line_eq (e : Suspect) : (if e.line = line then { e with waiting := true } else e).line = e.line := by
    split <;> rfl
  have count_eq (e : Suspect) : (if e.line = line then { e with waiting := true } else e).count = e.count := by
    split <;> rfl
  refine ⟨h.threshold, by simpa [Function.comp_def, line_eq] using h.lines, ?_, ?_⟩
  all_goals
    refine List.forall_mem_map.2 fun e mem => ?_
  · rw [count_eq]
    exact h.counts e mem
  · rw [count_eq, line_eq, h.atThreshold e mem]
    by_cases here : e.line = line <;> simp [here]

/-- An updated or new entry takes the tail; at the threshold it waits or is to be offered (R89, R92). -/
theorem SuspectList.Bounded.tail {l : SuspectList} (h : l.Bounded []) (e : Suspect) (offered : List Nat)
    (low : 1 ≤ e.count) (high : e.count ≤ l.threshold) (own : ∀ x ∈ offered, x = e.line)
    (offer : e.count = l.threshold ↔ e.waiting = true ∨ e.line ∈ offered) :
    SuspectList.Bounded { l with entries := dropSuspect l.entries e.line ++ [e] } offered := by
  have others : SuspectList.Bounded { l with entries := dropSuspect l.entries e.line } offered :=
    h.drop e.line fun x other => by simpa using fun mem => other (own x mem)
  refine ⟨h.threshold, ?_, ?_, ?_⟩
  · rw [List.map_append, List.map_singleton, ← List.concat_eq_append]
    refine others.lines.concat fun mem => ?_
    obtain ⟨x, there, same⟩ := List.mem_map.1 mem
    exact ((mem_dropSuspect _ _ _).1 there).2 same
  · exact List.forall_mem_append.2 ⟨others.counts, by simpa using ⟨low, high⟩⟩
  · exact List.forall_mem_append.2 ⟨others.atThreshold, by simpa using offer⟩

/-- The decay takes counts away from the threshold, and waiting entries stay at it (R98). -/
theorem SuspectList.Bounded.decay {l : SuspectList} (h : l.Bounded []) :
    SuspectList.Bounded { l with entries := l.entries.filterMap Suspect.decay } [] := by
  refine ⟨h.threshold, ?_, fun d mem => ?_, fun d mem => ?_⟩
  · refine List.pairwise_map.2 (List.Pairwise.filterMap _ ?_ (List.pairwise_map.1 h.lines))
    intro e f differ d left g right
    rwa [e.decay_line d left, f.decay_line g right]
  all_goals
    obtain ⟨e, there, left⟩ := List.mem_filterMap.1 mem
    have bounds := h.counts e there
    have full := h.atThreshold e there
    rcases e.decay_eq_some d left with ⟨waits, rfl⟩ | ⟨free, more, rfl⟩
  · exact bounds
  · dsimp only
    omega
  · exact full
  · simp only [free, Bool.false_eq_true, List.not_mem_nil, or_self, iff_false]
    omega

/-- A new threshold clears the waiting flags and clamps the counts; the lines at it are to be offered (R97). -/
theorem SuspectList.Bounded.clamp {l : SuspectList} (h : l.Bounded []) (n : Nat) (low : 1 ≤ n) (high : n ≤ 15)
    (es : List Suspect) (clamped : es = l.entries.map (fun e => { e with waiting := false, count := min e.count n })) :
    SuspectList.Bounded { entries := es, threshold := n }
      ((es.filter (fun e => decide (e.count = n))).map (fun e => e.line)) := by
  have lines : (es.map (fun e => e.line)).Nodup := by simpa [clamped, Function.comp_def] using h.lines
  have source (e : Suspect) (mem : e ∈ es) : e.waiting = false ∧ 1 ≤ e.count ∧ e.count ≤ n := by
    obtain ⟨x, there, rfl⟩ := List.mem_map.1 (clamped ▸ mem)
    have bounds := h.counts x there
    exact ⟨rfl, by dsimp only; omega, Nat.min_le_right _ _⟩
  refine ⟨⟨low, high⟩, lines, fun e mem => (source e mem).2, fun e mem => ?_⟩
  simp only [(source e mem).1, Bool.false_eq_true, false_or, List.mem_map, List.mem_filter, decide_eq_true_eq]
  refine ⟨fun full => ⟨e, ⟨mem, full⟩, rfl⟩, fun ⟨x, ⟨there, full⟩, same⟩ => ?_⟩
  rwa [← List.inj_on_of_nodup_map lines there mem same]

/-! ## Nominations and re-offers (R95 to R97) -/

@[simp] theorem State.setSuspectEntries_suspects (s : State) (es : List Suspect) :
    (s.setSuspectEntries es).suspects = { s.suspects with entries := es } := rfl

/-- A nomination answers the offer of its line: the entry leaves or waits (R95). -/
theorem State.nominate_bounded (s : State) (line : Nat) (rest : List Nat)
    (h : s.suspects.Bounded (line :: rest)) : (s.nominate line).suspects.Bounded rest := by
  have leaves : SuspectList.Bounded { s.suspects with entries := dropSuspect s.suspects.entries line } rest :=
    h.drop line fun x other => by simp [other]
  cases answer : s.rtqAnswer line with
  | accepted => simpa [s.nominate_accepted line answer] using leaves
  | alreadyPending => simpa [s.nominate_pending line answer] using leaves
  | queueFull => simpa [s.nominate_full line answer, State.setWaiting] using h.wait

theorem nominateLines_bounded (ls : List Nat) (s : State) (h : s.suspects.Bounded ls) :
    (nominateLines ls s).suspects.Bounded [] := by
  induction ls generalizing s with
  | nil => exact h
  | cons line ls ih => exact ih _ (s.nominate_bounded line ls h)

theorem State.setThreshold_bounded (s : State) (n : Nat) (low : 1 ≤ n) (high : n ≤ 15) (h : s.suspects.Bounded []) :
    (s.setThreshold n).suspects.Bounded [] :=
  nominateLines_bounded _ _ (h.clamp n low high _ rfl)

theorem State.removeSuspect_bounded (s : State) (line : Nat) (h : s.suspects.Bounded []) :
    (s.removeSuspect line).suspects.Bounded [] :=
  h.drop line fun _ _ => Iff.rfl

theorem reofferLines_bounded (ls : List Nat) (s : State) (h : s.suspects.Bounded []) :
    (reofferLines ls s).suspects.Bounded [] := by
  induction ls generalizing s with
  | nil => exact h
  | cons line ls ih =>
    simp only [reofferLines]
    split
    · exact State.removeSuspect_bounded _ line (by simpa using h)
    · exact ih _ (s.removeSuspect_bounded line h)
    · exact h

theorem State.reoffer_bounded (s : State) (h : s.suspects.Bounded []) : s.reoffer.suspects.Bounded [] :=
  reofferLines_bounded _ s h

/-! ## The update by a CORRECTED outcome (R91 to R94) -/

/-- An entry takes the tail with a new count, and is offered if that is the threshold (R92 to R94). -/
theorem State.nominateAt_tail_bounded (s : State) (e : Suspect) (low : 1 ≤ e.count)
    (high : e.count ≤ s.suspects.threshold) (free : e.waiting = false) (h : s.suspects.Bounded []) :
    ((s.suspectAtTail e).nominateAt e.line e.count).suspects.Bounded [] := by
  unfold State.nominateAt
  split
  next full =>
    exact State.nominate_bounded _ e.line [] (h.tail e [e.line] low high (by simp) (by simpa using full))
  next more => exact h.tail e [] low high (by simp) (by simpa [free] using more)

theorem State.freshSuspect_bounded (s : State) (line : Nat) (l : Loc) (mask : WordMask) (h : s.suspects.Bounded []) :
    ((s.suspectAtTail (freshSuspect line l mask)).nominateAt line 1).suspects.Bounded [] :=
  s.nominateAt_tail_bounded (freshSuspect line l mask) (Nat.le_refl 1) h.threshold.1 rfl h

theorem State.addSuspect_bounded (s : State) (line : Nat) (l : Loc) (mask : WordMask) (h : s.suspects.Bounded []) :
    (s.addSuspect line l mask).suspects.Bounded [] := by
  unfold State.addSuspect
  split
  · exact s.freshSuspect_bounded line l mask h
  · split
    next v _ =>
      exact State.freshSuspect_bounded _ line l mask (by simpa using s.removeSuspect_bounded v.line h)
    · simpa using h

theorem State.bumpSuspect_bounded (s : State) (e : Suspect) (mask : WordMask) (mem : e ∈ s.suspects.entries)
    (h : s.suspects.Bounded []) : (s.bumpSuspect e mask).suspects.Bounded [] := by
  obtain ⟨low, high⟩ := h.counts e mem
  unfold State.bumpSuspect
  split
  · exact h.tail _ [] low high (by simp) (h.atThreshold e mem)
  next free =>
    have positive := h.threshold.1
    exact s.nominateAt_tail_bounded
      { e with count := min (e.count + 1) s.suspects.threshold, mask := e.mask ||| mask }
      (by dsimp only; omega) (Nat.min_le_right _ _) (by simpa using free) h

theorem State.suspectUpdate_bounded (s : State) (line : Nat) (l : Loc) (mask : WordMask) (h : s.suspects.Bounded []) :
    (s.suspectUpdate line l mask).suspects.Bounded [] := by
  unfold State.suspectUpdate
  split
  · exact h
  · split
    next e found =>
      split
      · exact s.bumpSuspect_bounded e mask (List.mem_of_find?_eq_some found) h
      · exact s.freshSuspect_bounded line l mask h
    · exact s.addSuspect_bounded line l mask h

theorem State.reportCorrected_bounded (s : State) (src : RecordSource) (line : Nat) (l : Loc) (mask : WordMask)
    (h : s.suspects.Bounded []) : (s.reportCorrected src line l mask).suspects.Bounded [] :=
  State.suspectUpdate_bounded _ line l mask (by simpa using h)

/-! ## Items of the Copy Unit and entry to HALTED (R41, R51, R102) -/

theorem State.startItem_bounded (s : State) (h : s.suspects.Bounded []) : s.startItem.suspects.Bounded [] := by
  unfold State.startItem
  split
  · exact h
  next i rest _ =>
    refine State.reoffer_bounded _ ?_
    cases i.action <;> simpa using h

theorem State.startIfDue_bounded (s : State) (h : s.suspects.Bounded []) : s.startIfDue.suspects.Bounded [] := by
  unfold State.startIfDue
  split
  · exact s.startItem_bounded h
  · exact h

theorem startDueItems_bounded (n : Nat) (s : State) (h : s.suspects.Bounded []) :
    (startDueItems n s).suspects.Bounded [] := by
  induction n generalizing s with
  | zero => exact h
  | succ n ih =>
    simp only [startDueItems]
    split
    · exact ih _ (s.startItem_bounded h)
    · exact h

theorem State.started_bounded (s : State) (h : s.suspects.Bounded []) :
    s.newStep.settleIssues.settleStarts.suspects.Bounded [] :=
  startDueItems_bounded _ _ (by simpa using h)

theorem State.opened_bounded (s : State) (h : s.suspects.Bounded []) : s.opened.suspects.Bounded [] := by
  simpa [State.opened, State.settle] using s.started_bounded h

/-- The entry of a moved line leaves at the commit (R51). -/
theorem State.commit_bounded (s : State) (i : RetireItem) (h : s.suspects.Bounded []) :
    (s.commit i).suspects.Bounded [] := by
  unfold State.commit
  cases i.action with
  | move => simpa using s.removeSuspect_bounded i.line h
  | release => simpa using h

theorem State.verifyDone_bounded (s : State) (h : s.suspects.Bounded []) : s.verifyDone.suspects.Bounded [] := by
  unfold State.verifyDone
  split
  next i op _ _ _ =>
    have done : (s.finishOp op).suspects.Bounded [] := by simpa using h
    unfold State.verifyOutcome
    split
    · unfold State.verifyGood
      split
      · split <;> simpa using h
      · exact State.commit_bounded _ i done
    · simpa using h
  · exact h

theorem State.haltRtq_bounded (s : State) (h : s.suspects.Bounded []) : s.haltRtq.suspects.Bounded [] := by
  unfold State.haltRtq
  split
  · exact State.reoffer_bounded _ (by simpa using h)
  · exact h

theorem State.haltOnUe_bounded (s : State) (line : Nat) (h : s.suspects.Bounded []) :
    (s.haltOnUe line).suspects.Bounded [] := by
  unfold State.haltOnUe
  split
  · unfold State.enterHalted
    simp only [State.haltStop_frame]
    exact State.haltRtq_bounded _ (by simpa using h)
  · exact h

/-! ## The rows that report an outcome (R70 to R80) -/

theorem State.demandReadDone_bounded (s : State) (k : Nat) (h : s.suspects.Bounded []) :
    (s.demandReadDone k).suspects.Bounded [] := by
  unfold State.demandReadDone
  split
  · exact h
  next e op _ =>
    split
    · unfold State.readDecoded
      split
      · simpa using h
      · unfold State.readCorrected
        dsimp only
        split <;> simpa using State.reportCorrected_bounded _ _ _ _ _ (by simpa using h)
      · exact State.haltOnUe_bounded _ e.line (by simpa using h)
      · simpa using h
    · simpa using h
    · exact h

theorem State.partialReadDone_bounded (s : State) (k : Nat) (h : s.suspects.Bounded []) :
    (s.partialReadDone k).suspects.Bounded [] := by
  unfold State.partialReadDone
  split
  · exact h
  · split
    · unfold State.partialDecoded
      split
      · simpa using h
      · simpa using State.reportCorrected_bounded _ _ _ _ _ (by simpa using h)
      · simpa using h
      · simpa using h
    · simpa using h
    · exact h

theorem State.poisonWriteDone_bounded (s : State) (k : Nat) (h : s.suspects.Bounded []) :
    (s.poisonWriteDone k).suspects.Bounded [] := by
  unfold State.poisonWriteDone
  split
  · exact h
  · split
    · split
      · exact State.haltOnUe_bounded _ _ (by simpa using h)
      · exact h
    · exact h

theorem State.patrolReadDone_bounded (s : State) (k : Nat) (h : s.suspects.Bounded []) :
    (s.patrolReadDone k).suspects.Bounded [] := by
  unfold State.patrolReadDone
  split
  · exact h
  · split
    · unfold State.patrolOutcome
      dsimp only
      split
      · simpa using h
      · simpa using State.reportCorrected_bounded _ _ _ _ _ (by simpa using h)
      · split <;> simpa using h
      · simpa using h
    · exact h

/-! ## The sweep's end, commands and register writes (R97 to R99, R109, R171) -/

theorem State.expireTimer_bounded (s : State) (h : s.suspects.Bounded []) : s.expireTimer.suspects.Bounded [] := by
  unfold State.expireTimer State.timerExpiry State.chooseBackground
  split
  · exact h
  · split
    · split
      · simpa using h
      · split
        · unfold State.endSweep
          dsimp only
          split <;> simpa [State.decaySuspects] using h.decay
        · simpa using h
    · simpa using h

theorem State.take_bounded (s : State) (c : Command) (h : s.suspects.Bounded []) : (s.take c).suspects.Bounded [] := by
  cases c with
  | init => simpa [State.take, State.takeInit] using h.empty
  | clearSuspects => simpa [State.take, State.takeClearSuspects] using h.empty
  | _ => simpa [State.take] using h

theorem State.writeReg_bounded (s : State) (r : Reg) (v : Word32) (h : s.suspects.Bounded []) :
    (s.writeReg r v).suspects.Bounded [] := by
  cases r with
  | suspectCfg =>
    simp only [State.writeReg, State.writeSuspectCfg]
    split
    next range => exact s.setThreshold_bounded _ range.1 range.2 h
    · exact h
  | cmdCode =>
    simp only [State.writeReg, State.writeCode, State.takeCode, State.tryTake]
    split
    · simpa using h
    · split
      · simpa using h
      · split
        · exact s.take_bounded _ h
        · simpa using h
  | _ => simpa [State.writeReg] using h

theorem State.busWrite_bounded (s : State) (r : Reg) (be : Enables) (v : Word32) (h : s.suspects.Bounded []) :
    (s.busWrite r be v).suspects.Bounded [] := by
  unfold State.busWrite
  split
  · exact h
  · exact s.writeReg_bounded r v h

theorem State.windowWrite_bounded (s : State) (offset : BitVec 12) (be : Enables) (v : Word32)
    (h : s.suspects.Bounded []) : (s.windowWrite offset be v).suspects.Bounded [] := by
  unfold State.windowWrite
  split
  · exact h
  · exact s.busWrite_bounded _ be v h

/-! ## One command, one step -/

/-- The next state is the one that a command answers. -/
theorem SuspectList.Bounded.of_next {u t : State} (h : (.next u : Result) = .next t) (bounded : u.suspects.Bounded []) :
    t.suspects.Bounded [] :=
  Host.Outcome.next.inj h ▸ bounded

theorem exec_suspects_bounded (c : Instr) (s t : State) (bounded : s.suspects.Bounded []) (h : exec c s = .next t) :
    t.suspects.Bounded [] := by
  have opened := s.opened_bounded bounded
  have started := s.started_bounded bounded
  cases c with
  | powerOnReset | warmReset => exact .of_next h SuspectList.reset_bounded
  | demandReadComplete k => exact .of_next h (State.demandReadDone_bounded _ k opened)
  | partialWriteReadComplete k => exact .of_next h (State.partialReadDone_bounded _ k opened)
  | rmwPoisonWriteComplete k => exact .of_next h (State.poisonWriteDone_bounded _ k opened)
  | patrolReadComplete k => exact .of_next h (State.patrolReadDone_bounded _ k opened)
  | verifyComplete => exact .of_next h (State.verifyDone_bounded _ opened)
  | itemStart => exact .of_next h (State.startIfDue_bounded _ (by simpa using bounded))
  | patrolTimerExpiry => exact .of_next h (State.expireTimer_bounded _ opened)
  | entryIssue k => exact .of_next h (by simpa using bounded)
  | initFillEnd | drainComplete | haltedStopComplete => exact .of_next h (by simpa using started)
  | init | start | stop | setRegion | clearRegion | retire | release | loadRemap | markSpareBad | scrub | inject
  | clearSuspects => exact .of_next h (State.busWrite_bounded _ _ _ _ opened)
  | unknownCommand code => exact .of_next h (State.busWrite_bounded _ _ _ code opened)
  | commandRefused code => exact .of_next h (State.busWrite_bounded _ _ _ code opened)
  | arrayCfgWrite be v | suspectCfgWrite be v | patrolCfgWrite be v | irqCauseWrite be v | irqEnableWrite be v
  | cmdStatusWrite be v | recPop be v | counterClear _ be v =>
    exact .of_next h (State.busWrite_bounded _ _ be v opened)
  | registerWrite offset be v => exact .of_next h (State.windowWrite_bounded _ offset be v opened)
  | arrayCellFault phys word bits =>
    simp only [exec, execArrayCellFault] at h
    split at h
    · exact .of_next h (by simpa using opened)
    · cases h
  | resetRelease | requestAccept | grantPortHead | grantCopyRead | grantPatrol | demandWriteComplete
  | sourceWriteComplete | writebackComplete | scrubWriteComplete | copyReadComplete | targetWriteComplete
  | lateCompletion | fillWriteIssue | fillWriteComplete => exact .of_next h (by simpa using opened)

/-- Settles O55: what is due and the command of a step keep the list bounded, with no line left to be offered. -/
theorem everyStepKeepsSuspectsBounded : Obligations.EveryStepKeepsSuspectsBounded := by
  intro s t holds h
  have bounded := s.suspectsBounded_iff.1 holds
  refine t.suspectsBounded_iff.2 ?_
  unfold step at h
  split at h
  · exact .of_next h (s.opened_bounded bounded)
  next c rest _ => exact exec_suspects_bounded c (s.setPending rest) t (by simpa using bounded) h

end Sys2Proof.Machine
end

section
/-!
PROOFS. What a CORRECTED outcome makes of the Suspect List (R91 to R94), and what the answers of the Retirement Queue make
of nominated and waiting entries (R95, R96, R101).
-/

namespace Sys2Proof.Machine

/-! ## The evicted entry (R94) -/

/-- No entry is evicted where all wait. -/
theorem victim_none (es : List Suspect) (waits : ∀ e ∈ es, e.waiting = true) : victim es = none := by
  cases found : victim es with
  | none => rfl
  | some v =>
    obtain ⟨mem, free⟩ := victim_some es v found
    exact absurd (waits v mem) (by simp [free])

/-- Of the entries with the smallest count among those not waiting, the one nearest the head is evicted. -/
theorem victim_eq (a b : List Suspect) (x : Suspect) (free : x.waiting = false)
    (before : ∀ y ∈ a, y.waiting = false → x.count < y.count)
    (after : ∀ y ∈ b, y.waiting = false → x.count ≤ y.count) : victim (a ++ x :: b) = some x := by
  induction a with
  | nil =>
    simp only [List.nil_append, victim]
    split
    next v found =>
      obtain ⟨mem, least⟩ := victim_some b v found
      simp [free, after v mem least]
    next => simp [free]
  | cons y a ih =>
    obtain ⟨here, rest⟩ := List.forall_mem_cons.1 before
    simp only [List.cons_append, victim, ih rest]
    rw [if_neg]
    simp only [Bool.and_eq_true, Bool.not_eq_true', decide_eq_true_eq, not_and, Nat.not_le]
    exact here

/-! ## The update, case by case (R91 to R94) -/

section
variable (u : State) (line : Nat) (place : Loc) (mask : WordMask)

theorem State.suspectUpdate_declined (copying : u.lineCopying line = true) : u.suspectUpdate line place mask = u :=
  if_pos copying

section
variable (stable : u.lineCopying line = false)
include stable

theorem State.suspectUpdate_bump (e : Suspect) (found : u.suspects.entries.find? (fun x => x.line == line) = some e)
    (same : e.place = place) : u.suspectUpdate line place mask = u.bumpSuspect e mask := by
  simp only [State.suspectUpdate, stable, found, same, Bool.false_eq_true, ↓reduceIte]

theorem State.suspectUpdate_moved (e : Suspect) (found : u.suspects.entries.find? (fun x => x.line == line) = some e)
    (other : e.place ≠ place) :
    u.suspectUpdate line place mask = (u.suspectAtTail (freshSuspect line place mask)).nominateAt line 1 := by
  simp only [State.suspectUpdate, stable, found, other, Bool.false_eq_true, ↓reduceIte]

theorem State.suspectUpdate_new (absent : ∀ e ∈ u.suspects.entries, e.line ≠ line) :
    u.suspectUpdate line place mask = u.addSuspect line place mask := by
  have found : u.suspects.entries.find? (fun x => x.line == line) = none :=
    List.find?_eq_none.2 fun e mem => by simpa using absent e mem
  simp only [State.suspectUpdate, stable, found, Bool.false_eq_true, ↓reduceIte]

end

/-- An update of a waiting entry leaves its count (R92). -/
theorem State.bumpSuspect_waiting (e : Suspect) (waits : e.waiting = true) :
    u.bumpSuspect e mask = u.suspectAtTail { e with mask := e.mask ||| mask } :=
  if_pos waits

/-- An update below the threshold counts, and nominates the entry if that reaches it (R92). -/
theorem State.bumpSuspect_counts (e : Suspect) (free : e.waiting = false)
    (below : e.count + 1 ≤ u.suspects.threshold) :
    u.bumpSuspect e mask =
      (u.suspectAtTail { e with count := e.count + 1, mask := e.mask ||| mask }).nominateAt e.line (e.count + 1) := by
  simp only [State.bumpSuspect, free, Nat.min_eq_left below, Bool.false_eq_true, ↓reduceIte]

/-- A new entry is nominated at once where the threshold is 1 (R93, R94). -/
theorem State.nominateAt_one : u.nominateAt line 1 = if u.suspects.threshold = 1 then u.nominate line else u := by
  simp only [State.nominateAt, eq_comm (a := 1)]

theorem State.addSuspect_room (room : u.suspects.entries.length < 16) :
    u.addSuspect line place mask = (u.suspectAtTail (freshSuspect line place mask)).nominateAt line 1 :=
  if_pos room

theorem State.addSuspect_dropped (full : u.suspects.entries.length = 16)
    (waits : ∀ e ∈ u.suspects.entries, e.waiting = true) : u.addSuspect line place mask = u.count .suspectDrop := by
  simp only [State.addSuspect, full, Nat.lt_irrefl, victim_none _ waits, ↓reduceIte]

theorem State.addSuspect_evicts (full : u.suspects.entries.length = 16) (x : Suspect)
    (least : victim u.suspects.entries = some x) :
    u.addSuspect line place mask = (((u.removeSuspect x.line).count .suspectEvict).suspectAtTail
      (freshSuspect line place mask)).nominateAt line 1 := by
  simp only [State.addSuspect, full, Nat.lt_irrefl, least, ↓reduceIte]

/-- The list after an eviction: the evicted entry is gone and the new one stands at the tail (R89, R94). -/
theorem State.evicted_eq (a b : List Suspect) (x : Suspect) (list : u.suspects.entries = a ++ x :: b)
    (lines : (u.suspects.entries.map (fun e => e.line)).Nodup) (absent : ∀ e ∈ u.suspects.entries, e.line ≠ line) :
    ((u.removeSuspect x.line).count .suspectEvict).suspectAtTail (freshSuspect line place mask) =
      { u.count .suspectEvict with suspects := {
          entries := a ++ b ++ [freshSuspect line place mask], threshold := u.suspects.threshold } } := by
  have gone : dropSuspect u.suspects.entries x.line = a ++ b := by
    rw [list]
    exact dropSuspect_middle a b x (list ▸ lines)
  have none_left : dropSuspect (a ++ b) line = a ++ b :=
    dropSuspect_absent _ line fun e mem => absent e ((mem_dropSuspect _ x.line e).1 (gone ▸ mem)).1
  calc ((u.removeSuspect x.line).count .suspectEvict).suspectAtTail (freshSuspect line place mask)
      = { u.count .suspectEvict with suspects := {
          entries := dropSuspect (dropSuspect u.suspects.entries x.line) line ++ [freshSuspect line place mask]
          threshold := u.suspects.threshold } } := rfl
    _ = _ := by rw [gone, none_left]

end

/-- Settles O31: the update by the entry of the line and its place, and the addition by the room in the list. -/
theorem suspectUpdates : Obligations.SuspectUpdates := by
  intro u line place mask others tail fresh started
  have counted (e : Suspect) (c : Nat) (same : e.line = line) :
      u.suspectAtTail { e with count := c, mask := e.mask ||| mask } =
        tail others { e with count := c, mask := e.mask ||| mask } := by
    subst same
    rfl
  have starts (t : State) (list : t.suspects.threshold = u.suspects.threshold) : t.nominateAt line 1 = started t := by
    simp only [t.nominateAt_one, list, started]
  refine ⟨u.suspectUpdate_declined line place mask, fun stable => ⟨fun e found => ?_, fun absent => ?_⟩⟩
  · have ofLine : e.line = line := by simpa using List.find?_some found
    have bump := u.suspectUpdate_bump line place mask stable e found
    refine ⟨fun same waits => ?_, fun same free below => ?_, fun same free reaches => ?_, fun other => ?_⟩
    · rw [bump same, u.bumpSuspect_waiting mask e waits]
      exact counted e e.count ofLine
    · rw [bump same, u.bumpSuspect_counts mask e free below.le, counted e _ ofLine]
      exact if_neg below.ne
    · rw [bump same, u.bumpSuspect_counts mask e free reaches.le, counted e _ ofLine, ofLine]
      exact if_pos reaches
    · exact (u.suspectUpdate_moved line place mask stable e found other).trans (starts _ rfl)
  · rw [u.suspectUpdate_new line place mask stable absent]
    refine ⟨fun room => ?_, u.addSuspect_dropped line place mask, fun full lines a b x list free before after => ?_⟩
    · have joins : u.suspectAtTail (freshSuspect line place mask) = tail u.suspects.entries fresh := by
        have same := dropSuspect_absent u.suspects.entries line absent
        simp only [State.suspectAtTail, freshSuspect, same, tail, fresh]
        rfl
      rw [u.addSuspect_room line place mask room, joins]
      exact starts _ rfl
    · have least : victim u.suspects.entries = some x := list ▸ victim_eq a b x free before after
      rw [u.addSuspect_evicts line place mask full x least, u.evicted_eq line place mask a b x list lines absent]
      exact starts _ rfl

/-! ## Re-offers (R96) -/

/-- A removed entry is the one entry of its line (R89). -/
theorem State.removeSuspect_middle (u : State) (a b : List Suspect) (x : Suspect)
    (list : u.suspects.entries = a ++ x :: b) (lines : (u.suspects.entries.map (fun e => e.line)).Nodup) :
    u.removeSuspect x.line = { u with suspects := { u.suspects with entries := a ++ b } } := by
  rw [State.removeSuspect, list, dropSuspect_middle a b x (list ▸ lines)]
  rfl

/-- An entry already pending leaves, and those behind it are offered (R96). -/
theorem State.reoffer_pending (u : State) (a b : List Suspect) (x : Suspect) (list : u.suspects.entries = a ++ x :: b)
    (free : ∀ e ∈ a, e.waiting = false) (waits : x.waiting = true)
    (lines : (u.suspects.entries.map (fun e => e.line)).Nodup) (answer : u.rtqAnswer x.line = .alreadyPending) :
    u.reoffer = ({ u with suspects := { u.suspects with entries := a ++ b } } : State).reoffer := by
  have ahead : a.filter (fun e => e.waiting) = [] := List.filter_eq_nil_iff.2 fun e mem => by simp [free e mem]
  rw [u.reoffer_first a b x list free waits]
  simp only [reofferLines, answer, u.removeSuspect_middle a b x list lines, State.reoffer, State.waitingLines,
    List.filter_append, ahead, List.nil_append]

theorem State.reoffer_accepted (u : State) (a b : List Suspect) (x : Suspect) (list : u.suspects.entries = a ++ x :: b)
    (free : ∀ e ∈ a, e.waiting = false) (waits : x.waiting = true) (answer : u.rtqAnswer x.line = .accepted) :
    u.reoffer = (u.enqueue (suspectItem x.line)).removeSuspect x.line := by
  rw [u.reoffer_first a b x list free waits]
  simp only [reofferLines, answer]

theorem State.reoffer_full (u : State) (a b : List Suspect) (x : Suspect) (list : u.suspects.entries = a ++ x :: b)
    (free : ∀ e ∈ a, e.waiting = false) (waits : x.waiting = true) (answer : u.rtqAnswer x.line = .queueFull) :
    u.reoffer = u := by
  rw [u.reoffer_first a b x list free waits]
  simp only [reofferLines, answer]

/-- Settles O32: the re-offers by the answer to the first waiting entry, and a nomination by the answer to it. -/
theorem nominationAnswers : Obligations.NominationAnswers := by
  refine ⟨fun u => ⟨u.reoffer_none, ?_⟩, ?_⟩
  · intro a b x list free waits lines dropped
    refine ⟨fun pending => ?_, fun fresh stable => ⟨fun room => ?_, fun full => ?_⟩⟩
    · exact u.reoffer_pending a b x list free waits lines (u.rtqAnswer_pending x.line pending)
    · have answer : u.rtqAnswer x.line = .accepted := by rw [u.rtqAnswer_fresh x.line fresh stable, if_pos room]
      rw [u.reoffer_accepted a b x list free waits answer]
      exact State.removeSuspect_middle (u.enqueue (suspectItem x.line)) a b x list lines
    · have answer : u.rtqAnswer x.line = .queueFull := by
        rw [u.rtqAnswer_fresh x.line fresh stable, if_neg (Nat.not_lt.2 full)]
      exact u.reoffer_full a b x list free waits answer
  · intro u line dropped
    refine ⟨fun pending => ?_, fun fresh stable room => ?_, fun fresh stable full => ?_⟩
    · exact u.nominate_pending line (u.rtqAnswer_pending line pending)
    · exact u.nominate_accepted line (by rw [u.rtqAnswer_fresh line fresh stable, if_pos room])
    · exact u.nominate_full line (by rw [u.rtqAnswer_fresh line fresh stable, if_neg full.not_lt])

end Sys2Proof.Machine
end

section
/-!
PROOFS. The Patrol Unit's next line: what a timer expiry makes of the background sweep (R107 to R109), and what the SCRUB
command makes of the unit in each of its states (R116, R117).
-/

namespace Sys2Proof.Machine

/-! ## The lowest line (R108, R117) -/

/-- Regions that never overlap have their base at or below their limit (R141). -/
theorem State.regionsApart.base_le_limit {u : State} (apart : u.regionsApart) (g : Region)
    (valid : some g ∈ u.regions.entries) : g.base ≤ g.limit :=
  (apart.2 g (by simpa [RegionTable.valid] using valid)).1

/-- Where a line qualifies and none below it does, the choice is that line. -/
theorem lowestLine_eq_some (ok : Region → Bool) (rs : List (Option Region)) (c l : Nat)
    (ordered : ∀ g, some g ∈ rs → g.base ≤ g.limit) (found : qualifies ok rs c l)
    (lowest : ∀ l' < l, ¬ qualifies ok rs c l') : lowestLine ok rs c = some l := by
  cases choice : lowestLine ok rs c with
  | none => exact absurd found (lowestLine_none ok rs c choice l)
  | some m =>
    obtain ⟨qualified, least⟩ := lowestLine_some ok rs c m ordered choice
    have below : ¬ m < l := fun lt => lowest m lt qualified
    have above : ¬ l < m := fun lt => least l lt found
    exact congrArg some (by omega)

/-- Where no line qualifies there is no choice. -/
theorem lowestLine_eq_none (ok : Region → Bool) (rs : List (Option Region)) (c : Nat)
    (ordered : ∀ g, some g ∈ rs → g.base ≤ g.limit) (absent : ∀ l, ¬ qualifies ok rs c l) :
    lowestLine ok rs c = none :=
  Option.eq_none_iff_forall_ne_some.2 fun m choice => absent m (lowestLine_some ok rs c m ordered choice).1

/-! ## A timer expiry (R107 to R109) -/

/-- The row acts on a running timer (R107). -/
theorem exec_patrolTimerExpiry (s : State) (n : Nat) (running : s.opened.patrol.timer = some n) :
    exec .patrolTimerExpiry s = .next s.opened.timerExpiry := by
  have expires : s.opened.expireTimer = s.opened.timerExpiry := by rw [State.expireTimer, running]
  exact congrArg _ expires

/-- Outside RUNNING the timer starts again (R107). -/
theorem State.timerExpiry_restarts (u : State) (off : u.ctl.state ≠ .running) :
    u.timerExpiry = u.setPatrol u.patrol.wait :=
  if_neg off

/-- In RUNNING the unit looks for its next line (R107). -/
theorem State.timerExpiry_chooses (u : State) (on : u.ctl.state = .running) : u.timerExpiry = u.chooseBackground :=
  if_pos on

section
variable (u : State) (apart : u.regionsApart)
include apart

/-- The lowest line of the sweep at or above the cursor becomes the candidate (R108). -/
theorem State.chooseBackground_next (l : Nat) (found : qualifies Region.swept u.regions.entries u.patrol.cursor l)
    (lowest : ∀ l' < l, ¬ qualifies Region.swept u.regions.entries u.patrol.cursor l') :
    u.chooseBackground = u.setPatrol { u.patrol.choose l .background with cursor := l + 1 } := by
  rw [State.chooseBackground, lowestLine_eq_some _ _ _ l apart.base_le_limit found lowest]

/-- Without such a line a sweep that visited none starts again from line 0 (R108). -/
theorem State.chooseBackground_wraps (absent : ∀ l, ¬ qualifies Region.swept u.regions.entries u.patrol.cursor l)
    (fresh : u.patrol.visited = false) :
    u.chooseBackground = u.setPatrol ({ u.patrol with cursor := 0 } : PatrolUnit).wait := by
  rw [State.chooseBackground, lowestLine_eq_none _ _ _ apart.base_le_limit absent]
  exact if_neg (by simp [fresh])

/-- Without such a line a sweep that visited one ends (R108). -/
theorem State.chooseBackground_ends (absent : ∀ l, ¬ qualifies Region.swept u.regions.entries u.patrol.cursor l)
    (visited : u.patrol.visited = true) : u.chooseBackground = u.endSweep := by
  rw [State.chooseBackground, lowestLine_eq_none _ _ _ apart.base_le_limit absent]
  exact if_pos visited

end

/-- The unit after a sweep: it waits for the next one in CONTINUOUS, and otherwise is OFF (R109). -/
def PatrolUnit.afterSweep (p : PatrolUnit) : PatrolUnit :=
  let q : PatrolUnit := { p with sweep := p.sweep + 1, cursor := 0, visited := false }
  match p.mode with
  | .continuous => q.wait
  | .single => ({ q with mode := .off } : PatrolUnit).turnOff
  | .off => q.turnOff

/-- The end of a sweep: its record, counter and cause, the decay of the Suspect List, and the unit's next state (R98,
R109). -/
theorem State.endSweep_eq (u : State) :
    u.endSweep = { ((u.offer (sweepRecord (u.patrol.sweep + 1))).count .sweeps).latch .sweep with
      suspects := { u.suspects with entries := u.suspects.entries.filterMap Suspect.decay }
      patrol := u.patrol.afterSweep } := by
  let v := ((u.offer (sweepRecord (u.patrol.sweep + 1))).count .sweeps).latch .sweep
  have patrol : v.patrol = u.patrol := by simp [v]
  have suspects : v.suspects = u.suspects := by simp [v]
  have ends : u.endSweep = v.decaySuspects.setPatrol u.patrol.afterSweep := by
    simp only [State.endSweep, PatrolUnit.afterSweep, State.decaySuspects_frame, patrol, v]
    cases u.patrol.mode <;> rfl
  rw [ends, State.decaySuspects, State.setSuspectEntries, suspects]
  rfl

/-- Settles O35: the row acts on the running timer, and in RUNNING by the lowest line of the sweep. -/
theorem patrolTimerExpiry : Obligations.PatrolTimerExpiry := by
  intro s n u running found waits
  have row : exec .patrolTimerExpiry s = .next u.timerExpiry := exec_patrolTimerExpiry s n running
  have found_iff (l : Nat) : found l ↔ qualifies Region.swept u.regions.entries u.patrol.cursor l := by
    simp only [found, qualifies_iff, Region.swept, Bool.and_eq_true, decide_eq_true_eq, and_assoc]
  clear_value u found
  simp only [found_iff]
  refine ⟨fun off => ?_, fun on apart => ?_⟩
  · rw [row, u.timerExpiry_restarts off]
    rfl
  rw [row, u.timerExpiry_chooses on]
  refine ⟨fun l here lowest => ?_, fun absent fresh => ?_, fun absent visited => ?_⟩
  · rw [u.chooseBackground_next apart l here lowest]
    rfl
  · rw [u.chooseBackground_wraps apart absent fresh]
    rfl
  · rw [u.chooseBackground_ends apart absent visited, u.endSweep_eq, PatrolUnit.afterSweep]
    cases u.patrol.mode <;> rfl

/-! ## A withdrawn candidate (R110) -/

/-- A withdrawn candidate sets the cursor back to its line (R110). -/
theorem PatrolUnit.setBack_candidate (p : PatrolUnit) (c : PatrolLine) (candidate : p.candidate = some c) :
    p.setBack = { p with cursor := c.line, candidate := none } := by
  rw [PatrolUnit.setBack, candidate]

/-! ## The SCRUB command (R116, R117) -/

/-- With a free slot SCRUB is tested and taken (R189). -/
theorem exec_scrub (s : State) (free : s.opened.slotFree) : exec .scrub s = .next (s.opened.tryTake .scrub) :=
  congrArg _ (s.opened.busWrite_cmdCode 10 free)

/-- A range that is empty or reaches past the last line is no argument (R116). -/
theorem State.takeScrub_badArgument (u : State)
    (bad : u.cmd.arg1.toNat < u.cmd.arg0.toNat ∨ u.aif.size.logical ≤ u.cmd.arg1.toNat) :
    u.takeScrub = u.done .badArgument :=
  if_pos bad

/-- A range of the logical lines is taken, and the command holds the slot (R116). -/
theorem State.takeScrub_taken (u : State) (ordered : u.cmd.arg0.toNat ≤ u.cmd.arg1.toNat)
    (inside : u.cmd.arg1.toNat < u.aif.size.logical) :
    u.takeScrub = (u.held .scrub).startScrub u.cmd.arg0.toNat u.cmd.arg1.toNat :=
  if_neg (by omega)

/-- The unit with a targeted scrub of a range begun: no line of it is chosen yet (R116). -/
def PatrolUnit.scrubbing (p : PatrolUnit) (first last : Nat) : PatrolUnit :=
  { p with scrub := some { first := first, last := last, cursor := first }, activity := .scrub }

/-- The unit's part in the start of a targeted scrub, by its state (R116): it gives way, and but for a line in flight the
first step of the scrub follows. -/
theorem State.startScrub_eq (u : State) (first last : Nat) :
    (u.patrol.state = .off →
      u.startScrub first last = (u.setPatrol (u.patrol.scrubbing first last)).scrubStep) ∧
    (u.patrol.state = .waiting →
      u.startScrub first last =
        (u.setPatrol (({ u.patrol with timer := none } : PatrolUnit).scrubbing first last)).scrubStep) ∧
    (∀ c, u.patrol.state = .issuing → u.patrol.candidate = some c →
      u.startScrub first last = (u.clearWait.setPatrol
        (({ u.patrol with cursor := c.line, candidate := none } : PatrolUnit).scrubbing first last)).scrubStep) ∧
    (u.patrol.state = .inFlight →
      u.startScrub first last = u.setPatrol (u.patrol.scrubbing first last)) := by
  refine ⟨fun off => ?_, fun waiting => ?_, fun c issuing candidate => ?_, fun inFlight => ?_⟩
  · simp only [State.startScrub, off, PatrolUnit.scrubbing]
  · simp only [State.startScrub, waiting, PatrolUnit.scrubbing]
  · have givesWay : u.startScrub first last =
        (u.setPatrol (u.patrol.scrubbing first last).setBack).clearWait.scrubStep := by
      simp only [State.startScrub, issuing, PatrolUnit.scrubbing]
    rw [givesWay, (u.patrol.scrubbing first last).setBack_candidate c candidate]
    rfl
  · simp only [State.startScrub, inFlight, PatrolUnit.scrubbing]

/-- The first step of a targeted scrub begun at some unit p (R117): the lowest CHECKED line of the range is its candidate,
and without one it ends DONE. -/
theorem State.scrubStep_first (u : State) (p : PatrolUnit) (first last : Nat) (apart : u.regionsApart) :
    (∀ l, qualifies Region.scrubbed u.regions.entries first l →
      (∀ l' < l, ¬ qualifies Region.scrubbed u.regions.entries first l') → l ≤ last →
      (u.setPatrol (p.scrubbing first last)).scrubStep = u.setPatrol { p with
        state := .issuing, activity := .scrub, timer := none, candidate := some { line := l, owner := .scrub }
        scrub := some { first := first, last := last, cursor := l + 1 } }) ∧
    ((∀ l, qualifies Region.scrubbed u.regions.entries first l → last < l) →
      (u.setPatrol (p.scrubbing first last)).scrubStep =
        (u.done .done).setPatrol ({ p with activity := .background, scrub := none } : PatrolUnit).rest) :=
  ⟨fun l here lowest inside =>
      State.scrubStep_choose (u.setPatrol (p.scrubbing first last)) _ l rfl apart here lowest inside,
    fun past => State.scrubStep_end (u.setPatrol (p.scrubbing first last)) _ rfl apart past⟩

/-- Settles O43: the tests of the command, then the unit gives way and the scrub takes its first step. -/
theorem scrubStarts : Obligations.ScrubStarts := by
  intro s u free a b found steps
  have row : exec .scrub s = .next (u.tryTake .scrub) := exec_scrub s free
  have found_iff (l : Nat) : found l ↔ qualifies Region.scrubbed u.regions.entries a l := by
    simp only [found, qualifies_iff, Region.scrubbed, decide_eq_true_eq]
  clear_value u
  refine ⟨fun off => ?_, fun on => ?_⟩
  · rw [row, u.tryTake_wrongState .scrub (decide_eq_false off)]
  rw [u.tryTake_taken .scrub (decide_eq_true on)] at row
  refine ⟨fun bad => row.trans (congrArg _ (u.takeScrub_badArgument bad)), fun ordered inside apart => ?_⟩
  have taken : exec .scrub s = .next ((u.held .scrub).startScrub a b) :=
    row.trans (congrArg _ (u.takeScrub_taken ordered inside))
  obtain ⟨off, waiting, issuing, inFlight⟩ := (u.held .scrub).startScrub_eq a b
  have firstStep (p : PatrolUnit) (arb : Arbiter) (starts : (u.held .scrub).startScrub a b =
      (((u.held .scrub).setArbiter arb).setPatrol (p.scrubbing a b)).scrubStep) : steps p arb := by
    obtain ⟨next, ends⟩ := ((u.held .scrub).setArbiter arb).scrubStep_first p a b apart
    rw [starts] at taken
    simp only [steps, found_iff]
    exact ⟨fun l here lowest inside => taken.trans (congrArg _ (next l here lowest inside)),
      fun past => taken.trans (congrArg _ (ends past))⟩
  refine ⟨fun state => ?_, fun state => ?_, fun c state candidate => ?_, fun state => ?_⟩
  · exact firstStep _ _ (off state)
  · exact firstStep _ _ (waiting state)
  · exact firstStep _ _ (issuing c state candidate)
  · exact taken.trans (congrArg _ (inFlight state))

end Sys2Proof.Machine
end

section
/-!
PROOFS. Writes to PATROL_CFG: the fields a value gives, and what a change of mode makes of the unit in each of its states
(R106, R115).
-/

namespace Sys2Proof.Machine

/-! ## The fields of a value (R106) -/

/-- The mode a value names, code by code (R106). -/
theorem modeField_eq (v : Word32) (old : PatrolMode) :
    modeField v old =
      if (v.extractLsb' 0 2).toNat = 0 then .off else if (v.extractLsb' 0 2).toNat = 1 then .single
      else if (v.extractLsb' 0 2).toNat = 2 then .continuous else old := by
  unfold modeField
  split
  next code => rw [if_pos code]
  next code => rw [if_neg (by omega), if_pos code]
  next code => rw [if_neg (by omega), if_neg (by omega), if_pos code]
  next off single continuous => rw [if_neg off, if_neg single, if_neg continuous]

/-- The unit with the mode and the interval that a value gives (R106). -/
def PatrolUnit.configured (p : PatrolUnit) (v : Word32) : PatrolUnit :=
  { p with mode := modeField v p.mode, interval := intervalField v p.interval }

/-! ## A write and what it does by the unit's state (R115) -/

section
variable (u : State) (v : Word32)

/-- A value that names the mode in effect takes no action beyond its fields (log entry 26). -/
theorem State.writePatrolCfg_same (same : modeField v u.patrol.mode = u.patrol.mode) :
    u.writePatrolCfg v = u.setPatrol (u.patrol.configured v) :=
  if_pos same

/-- A value that names another mode changes it (R115). -/
theorem State.writePatrolCfg_changed (other : modeField v u.patrol.mode ≠ u.patrol.mode) :
    u.writePatrolCfg v = (u.setPatrol (u.patrol.configured v)).patrolModeChanged :=
  if_neg other

end

section
variable (u : State)

/-- A change of mode waits for the end of a targeted scrub, and for a line in flight (R115). -/
theorem State.patrolModeChanged_waits (busy : u.patrol.activity = .scrub ∨ u.patrol.state = .inFlight) :
    u.patrolModeChanged = u := by
  unfold State.patrolModeChanged
  split
  · rfl
  next background =>
    have flying : u.patrol.state = .inFlight := busy.resolve_left (by simp [background])
    rw [flying]

/-- During background activity a change of mode acts by the unit's state (R115): from OFF the unit starts to wait, and the
mode OFF turns a waiting unit OFF and withdraws a candidate. -/
theorem State.patrolModeChanged_background (background : u.patrol.activity = .background) :
    (u.patrol.state = .off → u.patrol.mode ≠ .off → u.patrolModeChanged = u.setPatrol u.patrol.wait) ∧
    (u.patrol.state = .off → u.patrol.mode = .off → u.patrolModeChanged = u) ∧
    (u.patrol.state = .waiting → u.patrol.mode = .off → u.patrolModeChanged = u.setPatrol u.patrol.turnOff) ∧
    (u.patrol.state = .waiting ∨ u.patrol.state = .issuing → u.patrol.mode ≠ .off → u.patrolModeChanged = u) ∧
    (∀ c, u.patrol.state = .issuing → u.patrol.candidate = some c → u.patrol.mode = .off →
      u.patrolModeChanged =
        (u.setPatrol ({ u.patrol with cursor := c.line, candidate := none } : PatrolUnit).turnOff).clearWait) := by
  refine ⟨fun off on => ?_, fun off stays => ?_, fun waiting off => ?_, fun works on => ?_,
    fun c issuing candidate off => ?_⟩
  · simp only [State.patrolModeChanged, background, off, if_neg on]
  · simp only [State.patrolModeChanged, background, off, if_pos stays]
  · simp only [State.patrolModeChanged, background, waiting, if_pos off]
  · obtain waiting | issuing := works
    · simp only [State.patrolModeChanged, background, waiting, if_neg on]
    · simp only [State.patrolModeChanged, background, issuing, if_neg on]
  · simp only [State.patrolModeChanged, background, issuing, if_pos off, u.patrol.setBack_candidate c candidate]

end

/-- Settles O47: the fields of the value, then a change of mode by the unit's activity and state. -/
theorem patrolCfgWrites : Obligations.PatrolCfgWrites := by
  refine ⟨fun s v be ignored => congrArg _ (s.opened.busWrite_ignored .patrolCfg be v ignored), ?_⟩
  intro s v u porst wrst t interval code mode p sets
  have row : exec (.patrolCfgWrite 15 v) s = .next (u.writePatrolCfg v) :=
    congrArg _ (u.busWrite_full .patrolCfg v porst wrst)
  have field : modeField v u.patrol.mode = mode := modeField_eq v u.patrol.mode
  have fields : u.patrol.configured v = p := by rw [PatrolUnit.configured, field]; rfl
  clear_value u mode
  have changed (other : mode ≠ u.patrol.mode) :
      exec (.patrolCfgWrite 15 v) s = .next (u.setPatrol p).patrolModeChanged := by
    rw [row, u.writePatrolCfg_changed v (field ▸ other), fields]
  refine ⟨fun rests => ?_, fun other background => ?_⟩
  · by_cases same : mode = u.patrol.mode
    · rw [u.writePatrolCfg_same v (field.trans same), fields] at row
      exact row
    · exact (changed same).trans
        (congrArg _ ((u.setPatrol p).patrolModeChanged_waits (rests.resolve_left same)))
  · obtain ⟨starts, rests, stops, runsOn, withdraws⟩ := (u.setPatrol p).patrolModeChanged_background background
    have acts {w : State} (effect : (u.setPatrol p).patrolModeChanged = w) :
        exec (.patrolCfgWrite 15 v) s = .next w :=
      (changed other).trans (congrArg _ effect)
    exact ⟨fun off on => acts (starts off on), fun off stays => acts (rests off stays),
      fun waiting off => acts (stops waiting off), fun works on => acts (runsOn works on),
      fun c issuing candidate off => acts (withdraws c issuing candidate off)⟩

end Sys2Proof.Machine
end

section
/-!
PROOFS. Offers to the Error Record Queue: what folding makes of the tail (R126), which record a full queue gives up for a
major one (R129), and what an append and a loss do to the causes and counters (R127, R130).
-/

namespace Sys2Proof.Machine

/-! ## The tail of the queue (R126) -/

/-- An offer folds into the queue exactly when it folds into the record at the tail (R126). -/
theorem RecordQueue.folds_iff (q : RecordQueue) (r : Record) :
    q.folds r = true ↔ ∃ a x, q.records = a ++ [x] ∧
      r.kind = .corrected ∧ x.kind = .corrected ∧ x.line = r.line ∧ x.place = r.place := by
  unfold RecordQueue.folds
  split
  next x tail =>
    obtain ⟨a, records⟩ := List.getLast?_eq_some_iff.1 tail
    simp only [records, Record.foldsInto, decide_eq_true_eq, List.append_singleton_inj]
    constructor
    · rintro ⟨rCorrected, xCorrected, line, place⟩
      exact ⟨a, x, ⟨rfl, rfl⟩, rCorrected, xCorrected, line.symm, place.symm⟩
    · rintro ⟨_, _, ⟨rfl, rfl⟩, rCorrected, xCorrected, line, place⟩
      exact ⟨rCorrected, xCorrected, line.symm, place.symm⟩
  next empty =>
    simp [List.getLast?_eq_none_iff.1 empty]

/-- Folding grows the record at the tail and keeps the records before it (R126). -/
theorem RecordQueue.fold_tail (q : RecordQueue) (r x : Record) (a : List Record) (tail : q.records = a ++ [x]) :
    q.fold r = { q with records := a ++ [x.grow r] } := by
  simp [RecordQueue.fold, replaceTail, tail]

/-- The tail grown by an outcome, both with their masks and the tail with its repeat count (R126). -/
theorem Record.grow_eq (x r : Record) (n : Nat) (m m' : WordMask) (repeats : x.repeats = some n)
    (mask : x.mask = some m) (mask' : r.mask = some m') :
    x.grow r = { x with repeats := some (min 255 (n + 1)), mask := some (m ||| m') } := by
  simp [Record.grow, repeats, mask, mask']

/-! ## The newest minor record (R129) -/

/-- A queue of major records has none to give up (R129). -/
theorem dropNewestMinor_eq_none (rs : List Record) (major : ∀ y ∈ rs, y.kind.minor = false) :
    dropNewestMinor rs = none := by
  cases dropped : dropNewestMinor rs with
  | none => rfl
  | some rs' =>
    obtain ⟨a, x, b, rfl, minor, -, -⟩ := dropNewestMinor_some rs rs' dropped
    simp [major x (by simp)] at minor

/-- The minor record behind which every record is major is the one given up (R129). -/
theorem dropNewestMinor_eq_some (a : List Record) (x : Record) (b : List Record) (minor : x.kind.minor = true)
    (major : ∀ y ∈ b, y.kind.minor = false) : dropNewestMinor (a ++ x :: b) = some (a ++ b) := by
  induction a with
  | nil => simp [dropNewestMinor, dropNewestMinor_eq_none b major, minor]
  | cons y a ih => simp [dropNewestMinor, ih]

/-! ## Appends and losses (R125, R127, R130) -/

/-- An append numbers the record, and a major one latches MAJOR (R125, R127). -/
theorem State.appendRecord_eq (s : State) (rs : List Record) (r : Record) :
    s.appendRecord rs r = { s with
      erq := { records := rs ++ [{ r with seq := s.erq.nextSeq }], nextSeq := s.erq.nextSeq + 1 }
      irq := if r.kind.minor then s.irq else s.irq.with .major } := by
  unfold State.appendRecord
  cases r.kind.minor <;> rfl

/-- A loss increments its counter and latches LOST, and leaves the queue as it was (R130). -/
theorem State.lost_eq (s : State) (c : Counter) :
    (s.count c).latch .lost = { s.count c with irq := s.irq.with .lost } := rfl

/-- Settles O33: an offer that the tail takes folds; any other goes by the room of the queue, by its own kind, and by the
newest minor record. -/
theorem recordOffers : Obligations.RecordOffers := by
  intro u r numbered appended lost
  refine ⟨fun a x n m m' tail rCorrected xCorrected line place repeats mask mask' => ?_, fun apart => ?_⟩
  · have folds : u.erq.folds r = true :=
      (u.erq.folds_iff r).2 ⟨a, x, tail, rCorrected, xCorrected, line, place⟩
    rw [u.offer_folds r folds, u.erq.fold_tail r x a tail, x.grow_eq r n m m' repeats mask mask']
    rfl
  have stays : u.erq.folds r = false := by
    rw [← Bool.not_eq_true, u.erq.folds_iff r]
    rintro ⟨a, x, tail, same⟩
    exact apart a x tail same
  refine ⟨fun room => ?_, fun full minor => ?_, fun full major =>
    ⟨fun a x b queue minor newest => ?_, fun majors => ?_⟩⟩
  · exact (u.offer_room r stays room).trans (u.appendRecord_eq _ r)
  · exact u.offer_minor_full r stays (by omega) minor
  · have dropped : dropNewestMinor u.erq.records = some (a ++ b) :=
      queue ▸ dropNewestMinor_eq_some a x b minor newest
    exact (u.offer_major_displaces r _ stays (by omega) major dropped).trans (State.appendRecord_eq _ _ r)
  · exact u.offer_major_full r stays (by omega) major (dropNewestMinor_eq_none _ majors)

end Sys2Proof.Machine
end

section
/-!
PROOFS. The status words of the register window and the interrupt pin: causes latched, cleared and enabled (R135 to R138),
counters (R197), and the pins (R138, R153).
-/

namespace Sys2Proof.Machine

/-! ## Causes (R136 to R138) -/

/-- Latching sets its own cause alone (R136). -/
theorem Latches.get_latch (l : Latches) (c d : Cause) : (l.latch c).get d = (l.get d || decide (d = c)) := by
  cases c <;> cases d <;> simp [Latches.latch, Latches.get]

/-- The position of a cause in IRQ_CAUSE and IRQ_ENABLE (11.5). -/
def Cause.position : Cause → Nat
  | .major => 1
  | .lost => 2
  | .cmdDone => 3
  | .halted => 4
  | .sparesLow => 5
  | .sweep => 6

/-- A latch is cleared where the position of its cause holds 1 (R137). -/
theorem Latches.get_clearBy (l : Latches) (v : Word32) (c : Cause) :
    (l.clearBy v).get c = (l.get c && !v.getLsbD c.position) := by
  cases c <;> rfl

/-- An enable takes the bit at the position of its cause (R138). -/
theorem Latches.get_ofWord (v : Word32) (c : Cause) : (Latches.ofWord v).get c = v.getLsbD c.position := by
  cases c <;> rfl

/-- A property of some cause, cause by cause. -/
theorem Cause.exists_iff (p : Cause → Prop) :
    (∃ c, p c) ↔ p .major ∨ p .lost ∨ p .cmdDone ∨ p .halted ∨ p .sparesLow ∨ p .sweep := by
  constructor
  · rintro ⟨c, holds⟩
    cases c <;> simp only [holds, true_or, or_true]
  · rintro (holds | holds | holds | holds | holds | holds) <;> exact ⟨_, holds⟩

/-- A cause is pending when the queue holds a record and RECORD is enabled, or when some latched cause is enabled (R135,
R138). -/
theorem State.causePending_iff (s : State) :
    s.causePending = true ↔ (s.erq.records ≠ [] ∧ s.irq.enableRecord = true) ∨
      ∃ c, s.irq.latched.get c = true ∧ s.irq.enable.get c = true := by
  rw [Cause.exists_iff]
  simp only [State.causePending, State.recordCause, Latches.get, Bool.or_eq_true, Bool.and_eq_true,
    Bool.not_eq_true', List.isEmpty_eq_false_iff, or_assoc]

/-! ## Pins and reset (R138, R139, R153, R198) -/

/-- The state is out of reset when neither reset input is asserted (R198). -/
theorem State.inReset_eq_false_iff (s : State) : s.inReset = false ↔ s.pins.porst = false ∧ s.pins.wrst = false :=
  Bool.or_eq_false_iff

/-- IRQ_N is low exactly outside reset with a cause pending (R138, R139). -/
theorem State.irqN_eq_false_iff (s : State) : s.irqN = false ↔ s.inReset = false ∧ s.causePending = true := by
  simp [State.irqN]

/-- A port is ready exactly outside reset with room in its queue (R153). -/
theorem State.ready_iff (s : State) (p : PortId) :
    s.ready p = true ↔ (s.ports.get p).queue.length < 8 ∧ s.inReset = false := by
  simp [State.ready]

/-! ## CMD_STATUS (R191) -/

/-- A write to CMD_STATUS keeps REFUSED unless its position holds 1 (R191). -/
theorem State.writeStatus_eq (u : State) (v : Word32) :
    u.writeStatus v = { u with cmd := { u.cmd with refused := u.cmd.refused && !v.getLsbD 1 } } := by
  unfold State.writeStatus
  cases v.getLsbD 1
  · simp
  · simp only [↓reduceIte, Bool.not_true, Bool.and_false]
    rfl

/-- Settles O48: an ignored write leaves the opened state; a full one outside reset is the word's own write; the pins are
read off the settled state. -/
theorem statusWrites : Obligations.StatusWrites := by
  refine ⟨?_, fun u c => ⟨rfl, u.count_get c⟩, fun q c => ⟨rfl, q.latched.get_latch c⟩, fun s => ⟨rfl, fun p => ?_⟩,
    ?_, fun s => ?_⟩
  · intro s v be u ignored
    have keeps (r : Reg) : (.next (u.busWrite r be v) : Result) = .next u :=
      congrArg _ (u.busWrite_ignored r be v ignored)
    simp only [List.forall_mem_cons, List.not_mem_nil, false_imp_iff, implies_true, and_true]
    exact ⟨⟨keeps .irqCause, keeps .irqEnable, keeps .cmdStatus, keeps .recPop⟩, fun c => keeps (.counter c)⟩
  · rw [Bool.eq_iff_iff, decide_eq_true_eq, ← State.inReset_eq_false_iff]
    exact s.settle.ready_iff p
  · intro s v u porst wrst bit
    have writes (r : Reg) : (.next (u.busWrite r 15 v) : Result) = .next (u.writeReg r v) :=
      congrArg _ (u.busWrite_full r v porst wrst)
    have position (c : Cause) : bit c = c.position := by cases c <;> rfl
    simp only [position]
    exact ⟨⟨_, writes .irqCause, u.irq.latched.get_clearBy v⟩, ⟨_, writes .irqEnable, Latches.get_ofWord v⟩,
      (writes .cmdStatus).trans (congrArg _ (u.writeStatus_eq v)), writes .recPop,
      fun c => ⟨_, writes (.counter c), fun d => u.counters.get_set c d 0⟩⟩
  · rw [s.irqN_eq_false_iff, s.inReset_eq_false_iff, s.causePending_iff, and_assoc]

end Sys2Proof.Machine
end

section
/-!
PROOFS. The Region Table by its indices: the region of a line, regions that never overlap, and what SET_REGION and
CLEAR_REGION make of the table (R140, R141, R143, R144).
-/

namespace Sys2Proof.Machine

/-! ## Entries by index (R140, R141) -/

theorem RegionTable.mem_valid_iff (t : RegionTable) (g : Region) :
    g ∈ t.valid ↔ ∃ j : Nat, t.entries[j]? = some (some g) := by
  rw [RegionTable.valid, List.mem_filterMap, ← List.mem_iff_getElem?]
  simp

theorem Region.apart_comm (a b : Region) : a.apart b ↔ b.apart a := or_comm

/-- Two regions are apart exactly when neither range meets the other. -/
theorem Region.apart_iff (a b : Region) : a.apart b ↔ ¬ (a.base ≤ b.limit ∧ b.base ≤ a.limit) := by
  unfold Region.apart
  omega

/-- A line of one region lies in no region that is apart from it. -/
theorem Region.apart.not_contains {a b : Region} (h : a.apart b) (line : Nat) (low : b.base ≤ line)
    (high : line ≤ b.limit) : a.contains line = false := by
  refine decide_eq_false fun inside => ?_
  unfold Region.apart at h
  omega

/-- No two entries of different indices overlap (R141). -/
theorem RegionTable.pairwise_apart_iff (t : RegionTable) : t.valid.Pairwise Region.apart ↔
    ∀ (i j : Nat) (a b : Region), i ≠ j → t.entries[i]? = some (some a) → t.entries[j]? = some (some b) →
      a.apart b := by
  rw [RegionTable.valid, List.pairwise_filterMap, List.pairwise_iff_getElem]
  constructor
  · intro ordered i j a b different atI atJ
    obtain ⟨hi, atI⟩ := List.getElem?_eq_some_iff.1 atI
    obtain ⟨hj, atJ⟩ := List.getElem?_eq_some_iff.1 atJ
    rcases Nat.lt_or_gt_of_ne different with less | greater
    · exact ordered i j hi hj less a atI b atJ
    · exact (a.apart_comm b).2 (ordered j i hj hi greater b atJ a atI)
  · intro apart i j hi hj less a atI b atJ
    exact apart i j a b (Nat.ne_of_lt less) (List.getElem?_eq_some_iff.2 ⟨hi, atI⟩)
      (List.getElem?_eq_some_iff.2 ⟨hj, atJ⟩)

/-- The invariant by index (R141). -/
theorem State.regionsApart_iff (s : State) : s.regionsApart ↔
    (∀ (i j : Nat) (a b : Region), i ≠ j → s.regions.entries[i]? = some (some a) →
      s.regions.entries[j]? = some (some b) → a.apart b) ∧
    ∀ (j : Nat) (g : Region), s.regions.entries[j]? = some (some g) →
      g.base ≤ g.limit ∧ g.limit < s.aif.size.logical := by
  refine and_congr s.regions.pairwise_apart_iff ⟨fun inside j g valid => ?_, fun inside g valid => ?_⟩
  · exact inside g ((s.regions.mem_valid_iff g).2 ⟨j, valid⟩)
  · obtain ⟨j, valid⟩ := (s.regions.mem_valid_iff g).1 valid
    exact inside j g valid

/-- Without a valid region there is nothing to keep apart. -/
theorem State.regionsApart_of_valid_nil (s : State) (h : s.regions.valid = []) : s.regionsApart := by
  simp [State.regionsApart, h]

/-- A line lies in no region when no valid entry contains it (R140). -/
theorem State.regionOf_eq_none (s : State) (line : Nat)
    (h : ∀ (j : Nat) (g : Region), s.regions.entries[j]? = some (some g) → g.contains line = false) :
    s.regionOf line = none := by
  refine List.find?_eq_none.2 fun g valid => ?_
  obtain ⟨j, valid⟩ := (s.regions.mem_valid_iff g).1 valid
  simp [h j g valid]

/-- Every valid entry of a table with one entry replaced is the new one at its index or an old one at another. -/
theorem valid_of_set {es : List (Option Region)} {n j : Nat} {r : Option Region} {g : Region}
    (h : (es.set n r)[j]? = some (some g)) : (j = n ∧ r = some g) ∨ (j ≠ n ∧ es[j]? = some (some g)) := by
  by_cases same : j = n
  · subst same
    rw [List.getElem?_set_self'] at h
    obtain ⟨_, -, rfl⟩ := Option.map_eq_some_iff.1 h
    exact .inl ⟨rfl, rfl⟩
  · rw [List.getElem?_set_ne (Ne.symm same)] at h
    exact .inr ⟨same, h⟩

/-! ## The overlap test (R143) -/

/-- The overlap test looks at every valid entry but the indexed one. -/
theorem State.stageOverlaps_iff (s : State) (n : Nat) : s.stageOverlaps n = true ↔
    ∃ j r, j ≠ n ∧ s.regions.entries[j]? = some (some r) ∧ r.base ≤ s.regions.stage.limit ∧
      s.regions.stage.base ≤ r.limit := by
  rw [State.stageOverlaps, List.any_eq_true]
  constructor
  · rintro ⟨x, mem, meets⟩
    obtain ⟨j, at_⟩ := List.mem_iff_getElem?.1 mem
    cases x with
    | none => simp [overlaps] at meets
    | some r =>
      obtain ⟨-, absent⟩ | ⟨other, valid⟩ := valid_of_set at_
      · cases absent
      · exact ⟨j, r, other, valid, of_decide_eq_true meets⟩
  · rintro ⟨j, r, other, valid, meets⟩
    refine ⟨some r, List.mem_iff_getElem?.2 ⟨j, ?_⟩, decide_eq_true meets⟩
    rw [List.getElem?_set_ne (Ne.symm other), valid]

end Sys2Proof.Machine
end

section
/-!
PROOFS. Every step keeps the regions apart and below LOGICAL_LINES (R141): the table and the array size are changed by
SET_REGION, CLEAR_REGION, a write to ARRAY_CFG and a power-on reset alone.
-/

namespace Sys2Proof.Machine

/-! ## Completions keep the array size (R1) -/

@[simp] theorem State.demandReadDone_size (s : State) (k : Nat) : (s.demandReadDone k).aif.size = s.aif.size := by
  unfold State.demandReadDone
  (repeat' split) <;> simp

@[simp] theorem State.partialReadDone_size (s : State) (k : Nat) : (s.partialReadDone k).aif.size = s.aif.size := by
  unfold State.partialReadDone
  (repeat' split) <;> simp

@[simp] theorem State.demandWriteDone_size (s : State) (k : Nat) : (s.demandWriteDone k).aif.size = s.aif.size := by
  unfold State.demandWriteDone
  (repeat' split) <;> simp

@[simp] theorem State.poisonWriteDone_size (s : State) (k : Nat) : (s.poisonWriteDone k).aif.size = s.aif.size := by
  unfold State.poisonWriteDone
  (repeat' split) <;> simp

@[simp] theorem State.sourceWriteDone_size (s : State) (k : Nat) : (s.sourceWriteDone k).aif.size = s.aif.size := by
  unfold State.sourceWriteDone
  (repeat' split) <;> simp

@[simp] theorem State.writebackDone_size (s : State) (k : Nat) : (s.writebackDone k).aif.size = s.aif.size := by
  unfold State.writebackDone
  (repeat' split) <;> simp

@[simp] theorem State.patrolReadDone_size (s : State) (k : Nat) : (s.patrolReadDone k).aif.size = s.aif.size := by
  unfold State.patrolReadDone
  (repeat' split) <;> simp

@[simp] theorem State.scrubWriteDone_size (s : State) (k : Nat) : (s.scrubWriteDone k).aif.size = s.aif.size := by
  unfold State.scrubWriteDone
  (repeat' split) <;> simp

@[simp] theorem State.copyReadDone_size (s : State) (k : Nat) (waiterFirst : Bool) :
    (s.copyReadDone k waiterFirst).aif.size = s.aif.size := by
  unfold State.copyReadDone
  (repeat' split) <;> simp

@[simp] theorem State.targetWriteDone_size (s : State) : s.targetWriteDone.aif.size = s.aif.size := by
  unfold State.targetWriteDone
  split <;> simp

@[simp] theorem State.verifyDone_size (s : State) : s.verifyDone.aif.size = s.aif.size := by
  unfold State.verifyDone
  split <;> simp

@[simp] theorem State.lateEntry_size (s : State) (k : Nat) : (s.lateEntry k).aif.size = s.aif.size := by
  unfold State.lateEntry
  (repeat' split) <;> simp

@[simp] theorem State.lateArray_size (s : State) (phys : Nat) : (s.lateArray phys).aif.size = s.aif.size := by
  unfold State.lateArray
  (repeat' split) <;> simp

@[simp] theorem State.lateDone_size (s : State) (op : LateOp) : (s.lateDone op).aif.size = s.aif.size := by
  cases op <;> simp [State.lateDone]

@[simp] theorem State.fillDone_size (s : State) (line : Nat) : (s.fillDone line).aif.size = s.aif.size := by
  unfold State.fillDone
  split <;> simp

@[simp] theorem State.cellFault_size (s : State) (phys word : Nat) (bits : BitVec 72) :
    (s.cellFault phys word bits).aif.size = s.aif.size := by
  unfold State.cellFault
  split <;> simp

/-! ## What one command can do to the regions -/

/-- What can become of the regions and the array size between the state s in which a command acts and the next state t:
they stay, no region is valid (power-on, or an array size that is open, R1, R152), SET_REGION puts a region that
passed its tests (R143), or CLEAR_REGION clears an entry (R144). -/
inductive State.RegionChange (s t : State) : Prop
  | kept (entries : t.regions.entries = s.regions.entries) (size : t.aif.size = s.aif.size)
  | empty (h : t.regions.valid = [])
  | set (n : Nat) (g : Region) (entries : t.regions.entries = s.regions.entries.set n (some g))
      (size : t.aif.size = s.aif.size) (ordered : g.base ≤ g.limit) (inside : g.limit < s.aif.size.logical)
      (apart : ∀ (j : Nat) (r : Region), j ≠ n → s.regions.entries[j]? = some (some r) → r.apart g)
  | cleared (n : Nat) (entries : t.regions.entries = s.regions.entries.set n none) (size : t.aif.size = s.aif.size)

/-- The next state is the one that a command answers. -/
theorem State.RegionChange.of_next {s u t : State} (h : (.next u : Result) = .next t) (c : s.RegionChange u) :
    s.RegionChange t :=
  Host.Outcome.next.inj h ▸ c

/-- SET_REGION puts the staged region where its tests pass, and otherwise changes no region (R143). -/
theorem State.takeSetRegion_change (s : State) : s.RegionChange s.takeSetRegion := by
  unfold State.takeSetRegion
  split
  · exact .kept (by simp) (by simp)
  split
  · exact .kept (by simp) (by simp)
  split
  · exact .kept (by simp) (by simp)
  split
  · exact .kept (by simp) (by simp)
  next ordered inside apart =>
    refine .set s.cmd.arg0.toNat s.regions.stage (by simp [State.putRegion]) (by simp) (Nat.not_lt.1 ordered)
      (Nat.not_le.1 inside) fun j r other valid => (r.apart_iff _).2 fun meets => ?_
    exact apart ((s.stageOverlaps_iff _).2 ⟨j, r, other, valid, meets⟩)

theorem State.takeClearRegion_change (s : State) : s.RegionChange s.takeClearRegion := by
  unfold State.takeClearRegion
  split
  · exact .kept (by simp) (by simp)
  · exact .cleared s.cmd.arg0.toNat (by simp [State.putRegion]) (by simp)

/-- No region is valid after power-on (R152). -/
theorem State.powerOn_valid (s : State) : s.powerOn.regions.valid = [] := rfl

/-- No other maintenance command changes a region. -/
theorem State.take_change (s : State) (c : Command) : s.RegionChange (s.take c) := by
  cases c with
  | setRegion => exact s.takeSetRegion_change
  | clearRegion => exact s.takeClearRegion_change
  | _ => exact .kept (by simp [State.take]) (by simp)

theorem State.writeCode_change (s : State) (code : Word32) : s.RegionChange (s.writeCode code) := by
  unfold State.writeCode State.takeCode State.tryTake
  split
  · exact .kept (by simp) (by simp)
  split
  · exact .kept (by simp) (by simp)
  split
  · exact s.take_change _
  · exact .kept (by simp) (by simp)

/-- The array size changes only while no region is valid (R1). -/
theorem State.writeArrayCfg_change (s : State) (v : Word32) : s.RegionChange (s.writeArrayCfg v) := by
  by_cases size_open : s.sizeOpen = true
  · obtain ⟨-, -, none_valid⟩ := s.sizeOpen_iff.1 size_open
    exact .empty (by simpa using none_valid)
  · rw [s.writeArrayCfg_ignored v (.inl size_open)]
    exact .kept rfl rfl

/-- A register write changes the regions by CMD_CODE and the size by ARRAY_CFG alone; the staging words are no entries
(R142). -/
theorem State.writeReg_change (s : State) (r : Reg) (v : Word32) : s.RegionChange (s.writeReg r v) := by
  cases r with
  | arrayCfg => exact s.writeArrayCfg_change v
  | cmdCode => exact s.writeCode_change v
  | stageA | stageB | stageC => exact .kept rfl rfl
  | _ => exact .kept (by simp [State.writeReg]) (by simp [State.writeReg])

theorem State.busWrite_change (s : State) (r : Reg) (be : Enables) (v : Word32) :
    s.RegionChange (s.busWrite r be v) := by
  unfold State.busWrite
  split
  · exact .kept rfl rfl
  · exact s.writeReg_change r v

theorem State.windowWrite_change (s : State) (offset : BitVec 12) (be : Enables) (v : Word32) :
    s.RegionChange (s.windowWrite offset be v) := by
  unfold State.windowWrite
  split
  · exact .kept rfl rfl
  · exact s.busWrite_change _ be v

/-- Every command does one of these to the regions, seen from the state with every due step performed. -/
theorem exec_regionChange (c : Instr) (s t : State) (h : exec c s = .next t) : s.opened.RegionChange t := by
  cases c with
  | powerOnReset => exact .of_next h (.empty (State.powerOn_valid _))
  | warmReset => exact .of_next h (.kept rfl rfl)
  | init | start | stop | setRegion | clearRegion | retire | release | loadRemap | markSpareBad | scrub | inject
  | clearSuspects => exact .of_next h (State.busWrite_change _ _ _ _)
  | unknownCommand code | commandRefused code => exact .of_next h (State.busWrite_change _ _ _ code)
  | arrayCfgWrite be v | suspectCfgWrite be v | patrolCfgWrite be v | irqCauseWrite be v | irqEnableWrite be v
  | cmdStatusWrite be v | recPop be v | counterClear _ be v => exact .of_next h (State.busWrite_change _ _ be v)
  | registerWrite offset be v => exact .of_next h (State.windowWrite_change _ offset be v)
  | arrayCellFault phys word bits =>
    simp only [exec, execArrayCellFault] at h
    split at h
    · exact .of_next h (.kept (by simp) (by simp))
    · cases h
  | _ => exact .of_next h (.kept (by simp) (by simp))

/-! ## The invariant -/

/-- Whatever a command does to the regions keeps them apart and below LOGICAL_LINES. -/
theorem State.RegionChange.regionsApart {s t : State} (c : s.RegionChange t) (h : s.regionsApart) :
    t.regionsApart := by
  rw [State.regionsApart_iff] at h
  obtain ⟨apart, below⟩ := h
  cases c with
  | kept entries size =>
    rw [State.regionsApart_iff, entries, size]
    exact ⟨apart, below⟩
  | empty none_valid => exact t.regionsApart_of_valid_nil none_valid
  | set n g entries size ordered inside other =>
    rw [State.regionsApart_iff, entries, size]
    refine ⟨fun i j a b different atI atJ => ?_, fun j r valid => ?_⟩
    · obtain ⟨rfl, ⟨⟩⟩ | ⟨hi, oldI⟩ := valid_of_set atI
      · obtain ⟨rfl, -⟩ | ⟨hj, oldJ⟩ := valid_of_set atJ
        · exact absurd rfl different
        · exact (Region.apart_comm _ _).2 (other j b hj oldJ)
      · obtain ⟨rfl, ⟨⟩⟩ | ⟨-, oldJ⟩ := valid_of_set atJ
        · exact other i a hi oldI
        · exact apart i j a b different oldI oldJ
    · obtain ⟨-, ⟨⟩⟩ | ⟨-, old⟩ := valid_of_set valid
      · exact ⟨ordered, inside⟩
      · exact below j r old
  | cleared n entries size =>
    have old {j : Nat} {r : Region} (valid : (s.regions.entries.set n none)[j]? = some (some r)) :
        s.regions.entries[j]? = some (some r) := by
      obtain ⟨-, ⟨⟩⟩ | ⟨-, valid⟩ := valid_of_set valid
      exact valid
    rw [State.regionsApart_iff, entries, size]
    exact ⟨fun i j a b different atI atJ => apart i j a b different (old atI) (old atJ),
      fun j r valid => below j r (old valid)⟩

/-- Settles O54: what is due changes neither regions nor array size, and the command of a step keeps the regions apart. -/
theorem everyStepKeepsRegionsApart : Obligations.EveryStepKeepsRegionsApart := by
  intro s t apart h
  have opened (u : State) (entries : u.regions = s.regions) (size : u.aif = s.aif) : u.opened.regionsApart :=
    (State.RegionChange.kept (by simp [entries]) (by simp [size])).regionsApart apart
  unfold step at h
  split at h
  · exact Host.Outcome.next.inj h ▸ opened s rfl rfl
  next c rest _ => exact (exec_regionChange c _ t h).regionsApart (opened (s.setPending rest) rfl rfl)

end Sys2Proof.Machine
end

section
/-!
PROOFS. SET_REGION and CLEAR_REGION by their tests in order (R143, R144).
-/

namespace Sys2Proof.Machine

/-- With a free slot SET_REGION is taken in every state but INITIALIZING (R189, R193). -/
theorem exec_setRegion (s : State) (free : s.opened.slotFree) (state : s.opened.ctl.state ≠ .initializing) :
    exec .setRegion s = .next s.opened.takeSetRegion :=
  congrArg Host.Outcome.next
    ((s.opened.busWrite_cmdCode 4 free).trans (s.opened.tryTake_taken .setRegion (decide_eq_true state)))

/-- With a free slot CLEAR_REGION is taken in every state but INITIALIZING (R189, R193). -/
theorem exec_clearRegion (s : State) (free : s.opened.slotFree) (state : s.opened.ctl.state ≠ .initializing) :
    exec .clearRegion s = .next s.opened.takeClearRegion :=
  congrArg Host.Outcome.next
    ((s.opened.busWrite_cmdCode 5 free).trans (s.opened.tryTake_taken .clearRegion (decide_eq_true state)))

/-- Settles O39: each failing test answers at once, and past them all the staged fields are the entry. -/
theorem setRegionTests : Obligations.SetRegionTests := by
  intro s u free state n g meets
  have taken : exec .setRegion s = .next u.takeSetRegion := exec_setRegion s free state
  clear_value u
  have meets_iff : u.stageOverlaps n = true ↔ meets := u.stageOverlaps_iff n
  rw [taken, State.takeSetRegion]
  refine ⟨fun index => ?_, fun index range => ?_, fun index range array => ?_, fun index range array overlap => ?_,
    fun index range array apart => ?_⟩
  · rw [if_pos index]
    rfl
  · rw [if_neg (Nat.not_lt.2 index), if_pos range]
    rfl
  · rw [if_neg (Nat.not_lt.2 index), if_neg (Nat.not_lt.2 range), if_pos array]
    rfl
  · rw [if_neg (Nat.not_lt.2 index), if_neg (Nat.not_lt.2 range), if_neg (Nat.not_le.2 array),
      if_pos (meets_iff.2 overlap)]
    rfl
  · rw [if_neg (Nat.not_lt.2 index), if_neg (Nat.not_lt.2 range), if_neg (Nat.not_le.2 array),
      if_neg (mt meets_iff.1 apart)]
    rfl

/-- A cleared entry reads as zero in the view (R144, R145). -/
theorem State.viewReg_putRegion_none (u : State) (n w : Nat) : (u.putRegion n none).viewReg (.regionView n w) = 0 := by
  have absent : (u.putRegion n none).regions.entries.getD n none = none := by
    simp only [State.putRegion, State.setRegions_regions, List.getD_eq_getElem?_getD, List.getElem?_set_self']
    cases u.regions.entries[n]? <;> rfl
  simp only [State.viewReg, absent, viewOf]

/-- Clearing an entry that is already invalid changes nothing (R144). -/
theorem State.putRegion_none_of_invalid (u : State) (n : Nat) (invalid : u.regions.entries[n]? = some none) :
    u.putRegion n none = u := by
  obtain ⟨inside, at_⟩ := List.getElem?_eq_some_iff.1 invalid
  have same : u.regions.entries.set n none = u.regions.entries := by
    conv_lhs => rw [← at_, List.set_getElem_self inside]
  simp only [State.putRegion, same]
  rfl

/-- The lines of a cleared region lie in no region, since the other regions are apart from it (R141, R144). -/
theorem State.regionOf_putRegion_none (u : State) (n : Nat) (g : Region) (line : Nat) (apart : u.regionsApart)
    (valid : u.regions.entries[n]? = some (some g)) (low : g.base ≤ line) (high : line ≤ g.limit) :
    (u.putRegion n none).regionOf line = none := by
  obtain ⟨apart, -⟩ := u.regionsApart_iff.1 apart
  refine State.regionOf_eq_none _ line fun j r left => ?_
  obtain ⟨-, ⟨⟩⟩ | ⟨other, left⟩ := valid_of_set left
  exact (apart j n r g other left valid).not_contains line low high

/-- Settles O40: the index test, then the indexed entry is cleared. -/
theorem clearRegion : Obligations.ClearRegion := by
  intro s u free state n cleared
  rw [exec_clearRegion s free state]
  refine ⟨fun index => congrArg _ (if_pos index), fun index => ⟨?_, u.viewReg_putRegion_none n⟩,
    u.putRegion_none_of_invalid n, fun g line => u.regionOf_putRegion_none n g line⟩
  exact congrArg _ (if_neg (Nat.not_lt.2 index))

end Sys2Proof.Machine
end

section
/-!
PROOFS. A granted port head that takes no entry: it fails the access check, or passes it and writes nothing (R74, R146,
R147).
-/

namespace Sys2Proof.Machine

/-- A request for a line in no region is refused as unmapped (R146). -/
theorem State.grantHead_unmapped (v : State) (p : PortId) (r : Request) (region : v.regionOf r.line.toNat = none) :
    v.grantHead p r = v.refuse p r .unmapped .unmapped := by
  simp only [State.grantHead, region]

section
variable (v : State) (p : PortId) (r : Request) (g : Region) (region : v.regionOf r.line.toNat = some g)
include region

/-- A read from a port outside the region's read mask is refused (R146). -/
theorem State.grantHead_read_denied (kind : r.kind = .read) (refused : permits g.readMask p = false) :
    v.grantHead p r = v.refuse p r .denied .port := by
  simp only [State.grantHead, region, kind, refused, Bool.false_eq_true, ↓reduceIte]

variable (mask : ByteMask) (data : LineData) (kind : r.kind = .write mask data)
include kind

/-- A write from a port outside the region's write mask is refused (R146). -/
theorem State.grantHead_write_denied (refused : permits g.writeMask p = false) :
    v.grantHead p r = v.refuse p r .denied .port := by
  simp only [State.grantHead, region, kind, refused, Bool.false_eq_true, ↓reduceIte]

/-- A permitted write to a write-protected region is refused (R146). -/
theorem State.grantHead_write_protected (permitted : permits g.writeMask p = true) (protect : g.writeProtect = true) :
    v.grantHead p r = v.refuse p r .denied .writeProtect := by
  simp only [State.grantHead, region, kind, permitted, protect, ↓reduceIte]

/-- A write that passes the access check with an all-zero mask is answered OK (R74). -/
theorem State.grantHead_write_nothing (permitted : permits g.writeMask p = true) (open_ : g.writeProtect = false)
    (nothing : mask = 0) : v.grantHead p r = v.answer (plainAnswer p r .ok) := by
  have no_byte : zeroMask mask = true := decide_eq_true nothing
  simp only [State.grantHead, region, kind, permitted, open_, no_byte, Bool.false_eq_true, ↓reduceIte]

end

/-- Settles O10: the head is granted, and the tests of the access check in their order answer it. -/
theorem portHeadAnsweredAtGrant : Obligations.PortHeadAnsweredAtGrant := by
  intro s p r rest u chosen queue v denied
  have granted : exec .grantPortHead s = .next ((u.headGranted p).grantHead p r) :=
    congrArg Host.Outcome.next (u.grantPortHead_eq p r rest chosen queue)
  clear_value u
  have answered (st : RespStatus) : (u.headGranted p).answer (plainAnswer p r st) = v st := by
    simp only [State.answer, State.releaseTag, State.headGranted, v]
    rfl
  have refused (st : RespStatus) (d : DenyReason) : (u.headGranted p).refuse p r st d = (v st).offer (denied d) :=
    congrArg (fun x : State => x.offer (deniedRecord p r d)) (answered st)
  have region : (u.headGranted p).regionOf r.line.toNat = u.regionOf r.line.toNat := rfl
  rw [granted, ← region]
  refine ⟨fun unmapped => ?_, fun g mapped => ⟨fun kind outside => ?_, fun mask data kind =>
    ⟨fun outside => ?_, fun permitted protect => ?_, fun permitted open_ nothing => ?_⟩⟩⟩
  · rw [State.grantHead_unmapped _ p r unmapped, refused]
  · rw [State.grantHead_read_denied _ p r g mapped kind outside, refused]
  · rw [State.grantHead_write_denied _ p r g mapped mask data kind outside, refused]
  · rw [State.grantHead_write_protected _ p r g mapped mask data kind permitted protect, refused]
  · rw [State.grantHead_write_nothing _ p r g mapped mask data kind permitted open_ nothing, answered]

end Sys2Proof.Machine
end

section
/-!
PROOFS. The acceptance of a request (R153, R155).
-/

namespace Sys2Proof.Machine

/-- An accepted request with a fresh tag is queued in RUNNING and answered in every other state (R155). -/
theorem State.acceptRequest_fresh (s : State) (p : PortId) (r : Request) (ready : s.ready p = true)
    (fresh : r.tag ∉ (s.ports.get p).tags) :
    s.acceptRequest p r =
      if s.ctl.state = .running then s.queueRequest p r
      else if s.ctl.state = .halted then s.present (plainAnswer p r .halted)
      else s.present (plainAnswer p r .notReady) := by
  rw [State.acceptRequest, if_pos ready, if_neg fresh]
  cases s.ctl.state <;> rfl

/-- Settles O8: the tests of readiness, of the tag and of the controller's state, in their order. -/
theorem requestAcceptance : Obligations.RequestAcceptance := by
  intro s p r u answer
  have accepted : exec (.requestAccept p r) s = .next (u.acceptRequest p r) := rfl
  clear_value u
  have ready_iff := u.ready_iff p
  rw [State.inReset_eq_false_iff] at ready_iff
  rw [accepted]
  by_cases ready : u.ready p = true
  · rw [if_pos (ready_iff.1 ready)]
    by_cases busy : r.tag ∈ (u.ports.get p).tags
    · rw [State.acceptRequest, if_pos ready, if_pos busy, if_pos busy]
      rfl
    · rw [u.acceptRequest_fresh p r ready busy, if_neg busy]
      simp only [apply_ite (Host.Outcome.next : State → Result)]
      rfl
  · rw [if_neg (mt ready_iff.2 ready), State.acceptRequest, if_neg ready]

end Sys2Proof.Machine
end

section
/-!
PROOFS. The precedence of the Grant Arbiter (R160 to R162).
-/

namespace Sys2Proof.Machine

/-! ## The candidates (R44, R110, R161, R162) -/

/-- No slot is empty exactly while the table holds an entry in every slot (R64). -/
theorem State.emptySlot_eq_none_iff (s : State) :
    s.emptySlot = none ↔ ∀ k < s.olt.slots.length, (s.entryAt k).isSome = true := by
  rw [State.emptySlot, List.findIdx?_eq_none_iff, List.forall_mem_iff_forall_getElem]
  refine forall₂_congr fun k inside => ?_
  simp [State.entryAt, inside, Option.isSome_iff_ne_none]

/-- Work is granted in RUNNING and DRAINING (R161). -/
theorem CtlState.grants_iff (c : CtlState) : c.grants = true ↔ c = .running ∨ c = .draining := decide_eq_true_iff

/-- The table holds the COPY_READ of an item number in one of its slots. -/
theorem State.any_isCopyReadOf_iff (s : State) (n : BitVec 16) :
    s.olt.slots.any (isCopyReadOf n) = true ↔ ∃ k, ∃ e ∈ s.entryAt k, e.work = .copyRead n := by
  have entry (o : Option OpenEntry) : isCopyReadOf n o = true ↔ ∃ e ∈ o, e.work = .copyRead n := by
    cases o <;> simp [isCopyReadOf]
  rw [List.any_eq_true]
  constructor
  · rintro ⟨o, mem, copy⟩
    obtain ⟨k, inside, rfl⟩ := List.getElem_of_mem mem
    rw [List.getElem_eq_getD none] at copy
    exact ⟨k, (entry (s.entryAt k)).1 copy⟩
  · rintro ⟨k, e, found, copy⟩
    have inside := s.entryAt_lt k e found
    refine ⟨s.olt.slots[k], List.getElem_mem inside, ?_⟩
    rw [List.getElem_eq_getD none]
    exact (entry (s.entryAt k)).2 ⟨e, found, copy⟩

/-- The Copy Unit is a candidate in READ_SOURCE until its copy read has an entry (R44, R161). -/
theorem State.copyCandidate_iff (s : State) :
    s.copyCandidate = true ↔ s.copy.state = .readSource ∧ (s.ctl.state = .running ∨ s.ctl.state = .draining) ∧
      ∀ k, ∀ e ∈ s.entryAt k, e.work ≠ .copyRead s.copy.itemNo := by
  rw [State.copyCandidate, Bool.and_eq_true, Bool.and_eq_true, decide_eq_true_iff, CtlState.grants_iff, and_assoc,
    Bool.not_eq_true', ← Bool.not_eq_true, State.any_isCopyReadOf_iff]
  simp only [not_exists, not_and, ne_eq]

/-- The port candidate is the first port from the pointer on with a request queued (R161, R162). -/
theorem State.portCandidate_eq_some_iff (s : State) (p : PortId) :
    s.portCandidate = some p ↔ (s.ctl.state = .running ∨ s.ctl.state = .draining) ∧ (s.ports.get p).queue ≠ [] ∧
      ∃ n : Fin 4, (portScan s.arbiter.pointer)[n.val]? = some p ∧
        ∀ m < n.val, ∀ q ∈ (portScan s.arbiter.pointer)[m]?, (s.ports.get q).queue = [] := by
  have waits (q : PortId) : (!(s.ports.get q).queue.isEmpty) = true ↔ (s.ports.get q).queue ≠ [] := by simp
  have nothing (q : PortId) : (!!(s.ports.get q).queue.isEmpty) = true ↔ (s.ports.get q).queue = [] := by simp
  unfold State.portCandidate
  split
  next grants =>
    rw [List.find?_eq_some_iff_getElem, ← CtlState.grants_iff]
    simp only [grants, true_and, waits, nothing]
    refine and_congr_right fun _ => ⟨?_, ?_⟩
    · rintro ⟨n, inside, here, before⟩
      refine ⟨⟨n, inside⟩, by rw [List.getElem?_eq_getElem inside, here], fun m below q found => ?_⟩
      obtain ⟨_, rfl⟩ := List.getElem?_eq_some_iff.1 found
      exact before m below
    · rintro ⟨n, here, before⟩
      obtain ⟨inside, here⟩ := List.getElem?_eq_some_iff.1 here
      exact ⟨n, inside, here, fun m below => before m below _ (List.getElem?_eq_getElem _)⟩
  next idle => simp [mt (CtlState.grants_iff _).2 idle]

/-- The Patrol Unit is a candidate in ISSUING while the controller is RUNNING (R110, R161). -/
theorem State.patrolCandidate_iff (s : State) :
    s.patrolCandidate = true ↔ s.patrol.state = .issuing ∧ s.ctl.state = .running := decide_eq_true_iff

/-! ## The precedence (R160, R161) -/

section
variable {s : State}

/-- A full table takes no grant (R160). -/
theorem State.choice_of_full (full : s.emptySlot = none) : s.choice = none := by
  rw [State.choice, if_pos (by simp [full])]

variable (room : s.emptySlot ≠ none)
include room

/-- The copy read comes first (R161). -/
theorem State.choice_of_copy (copy : s.copyCandidate = true) : s.choice = some .copyRead := by
  rw [State.choice, if_neg (by simpa using room), if_pos copy]

variable (noCopy : ¬ s.copyCandidate = true)
include noCopy

/-- Without a copy read the patrol comes first once it has waited for 16 port grants (R161, R163). -/
theorem State.choice_of_waited (patrol : s.patrolCandidate = true) (waited : 16 ≤ s.arbiter.patrolWait) :
    s.choice = some .patrol := by
  rw [State.choice, if_neg (by simpa using room), if_neg noCopy, if_pos (by simp [patrol, waited])]

/-- Before it has, the ports come first (R161). -/
theorem State.choice_of_port (early : ¬ (s.patrolCandidate = true ∧ 16 ≤ s.arbiter.patrolWait)) {p : PortId}
    (port : s.portCandidate = some p) : s.choice = some (.port p) := by
  rw [State.choice, if_neg (by simpa using room), if_neg noCopy, if_neg (by simpa using early), port]

/-- Without a port the patrol is granted however long it has waited, or nothing is (R161). -/
theorem State.choice_of_no_port (noPort : s.portCandidate = none) :
    s.choice = if s.patrolCandidate then some .patrol else none := by
  rw [State.choice, if_neg (by simpa using room), if_neg noCopy, noPort]
  cases s.patrolCandidate <;> simp

end

/-- Settles O9: each candidate is granted when the ones before it in the precedence are absent. -/
theorem arbiterPrecedence : Obligations.ArbiterPrecedence := by
  intro s grants copy patrol port
  have copy_iff : s.copyCandidate = true ↔ copy := s.copyCandidate_iff
  have patrol_iff : s.patrolCandidate = true ↔ patrol := s.patrolCandidate_iff
  have port_iff (p : PortId) : s.portCandidate = some p ↔ port p := s.portCandidate_eq_some_iff p
  clear_value copy patrol port
  simp only [← copy_iff, ← patrol_iff, ← port_iff]
  refine ⟨fun full => State.choice_of_full (s.emptySlot_eq_none_iff.2 full), fun ⟨k, inside, empty⟩ => ?_⟩
  have room : s.emptySlot ≠ none := fun full => by simpa [empty] using s.emptySlot_eq_none_iff.1 full k inside
  have absent (none_of : ¬ ∃ p, s.portCandidate = some p) : s.portCandidate = none :=
    Option.eq_none_iff_forall_ne_some.2 fun p found => none_of ⟨p, found⟩
  refine ⟨State.choice_of_copy room, fun noCopy waiting waited => State.choice_of_waited room noCopy waiting waited.ge,
    fun noCopy early p => State.choice_of_port room noCopy early, fun noCopy noPort waiting => ?_,
    fun noCopy noPort idle => ?_⟩
  · rw [State.choice_of_no_port room noCopy (absent noPort), if_pos waiting]
  · rw [State.choice_of_no_port room noCopy (absent noPort), if_neg idle]

end Sys2Proof.Machine
end

section
/-!
PROOFS. Outstanding tags as a matching (R154, R156): each tag of a port stands for one queued request or for one slot of
the Open-Line Table, and what an answer, a grant and an acceptance make of that.
-/

namespace Sys2Proof.Machine

/-! ## One port's tags -/

/-- A port's outstanding tags are those of its queued requests and those that the slots owe it, each once. -/
structure TagsMatch (tags queue : List Tag) (owed : Nat → Option Tag) : Prop where
  once : tags.Nodup
  queued : queue.Nodup
  apart : ∀ k t, owed k = some t → t ∉ queue
  alone : ∀ j k t, owed j = some t → owed k = some t → j = k
  covered : ∀ t, t ∈ tags ↔ t ∈ queue ∨ ∃ k, owed k = some t

/-- Over the slots of a table the matching is a permutation (R154). -/
theorem tagsMatch_iff_perm (tags queue : List Tag) (owed : Nat → Option Tag) (n : Nat)
    (inside : ∀ k t, owed k = some t → k < n) :
    TagsMatch tags queue owed ↔ tags.Nodup ∧ tags.Perm (queue ++ (List.range n).filterMap owed) := by
  have slots (t : Tag) : t ∈ (List.range n).filterMap owed ↔ ∃ k, owed k = some t := by
    simp only [List.mem_filterMap, List.mem_range]
    exact ⟨fun ⟨k, _, found⟩ => ⟨k, found⟩, fun ⟨k, found⟩ => ⟨k, inside k t found, found⟩⟩
  have members (t : Tag) : t ∈ queue ++ (List.range n).filterMap owed ↔ t ∈ queue ∨ ∃ k, owed k = some t := by
    rw [List.mem_append, slots]
  constructor
  · rintro ⟨once, queued, apart, alone, covered⟩
    have owedOnce : ((List.range n).filterMap owed).Nodup := by
      refine List.pairwise_filterMap.2 (List.nodup_range.pairwise_of_forall_ne ?_)
      rintro j - k - other a left b right rfl
      exact other (alone j k a left right)
    have disjoint : List.Disjoint queue ((List.range n).filterMap owed) := by
      intro t inQueue inSlots
      obtain ⟨k, found⟩ := (slots t).1 inSlots
      exact apart k t found inQueue
    refine ⟨once, (List.perm_ext_iff_of_nodup once (queued.append owedOnce disjoint)).2 fun t => ?_⟩
    rw [covered, members]
  · rintro ⟨once, perm⟩
    obtain ⟨queued, owedOnce, disjoint⟩ := List.nodup_append.1 (perm.nodup_iff.1 once)
    refine ⟨once, queued, fun k t found inQueue => ?_, fun j k t left right => ?_, fun t => ?_⟩
    · exact disjoint t inQueue t ((slots t).2 ⟨k, found⟩) rfl
    · by_contra other
      have differ := List.pairwise_iff_getElem.1 (List.pairwise_filterMap.1 owedOnce)
      have least (i m : Nat) (before : i < m) (x : owed i = some t) (y : owed m = some t) : False :=
        differ i m (by simpa using inside i t x) (by simpa using inside m t y) before t (by simpa using x) t
          (by simpa using y) rfl
      rcases Nat.lt_or_gt_of_ne other with before | after
      · exact least j k before left right
      · exact least k j after right left
    · rw [perm.mem_iff, members]

section
variable {tags queue : List Tag} {owed : Nat → Option Tag} {t : Tag}

/-- Answers take their tags from the set, the queue and the slots alike (R156). -/
theorem TagsMatch.answered (h : TagsMatch tags queue owed) (stays : Tag → Bool) :
    TagsMatch (tags.filter stays) (queue.filter stays) (fun k => (owed k).filter stays) := by
  refine ⟨h.once.filter _, h.queued.filter _, fun k t owes mem => ?_, fun j k t left right => ?_, fun t => ?_⟩
  · exact h.apart k t (Option.filter_eq_some_iff.1 owes).1 (List.mem_filter.1 mem).1
  · exact h.alone j k t (Option.filter_eq_some_iff.1 left).1 (Option.filter_eq_some_iff.1 right).1
  · simp only [List.mem_filter, h.covered, Option.filter_eq_some_iff, exists_and_right, or_and_right]

/-- A slot that does not owe the answered tag owes what it owed. -/
theorem filter_of_stays {o : Option Tag} (other : ∀ u, o = some u → u ≠ t) : o.filter (fun u => u ≠ t) = o := by
  cases o with
  | none => rfl
  | some u => exact Option.filter_some_pos (decide_eq_true (other u rfl))

/-- The request that a slot owes is answered (R156). -/
theorem TagsMatch.answerSlot (h : TagsMatch tags queue owed) (k : Nat) (owes : owed k = some t) :
    TagsMatch (tags.filter (fun u => u ≠ t)) queue (Function.update owed k none) := by
  have queueStays : queue.filter (fun u => u ≠ t) = queue :=
    List.filter_eq_self.2 fun u mem => decide_eq_true fun same => h.apart k t owes (same ▸ mem)
  have slotLeft : (fun j => (owed j).filter (fun u => u ≠ t)) = Function.update owed k none := by
    funext j
    by_cases here : j = k
    · simp [here, owes]
    · rw [Function.update_of_ne here]
      exact filter_of_stays fun u found same => here (h.alone j k t (same ▸ found) owes)
  simpa only [queueStays, slotLeft] using h.answered fun u => u ≠ t

/-- The head of the queue is answered (R147, R156). -/
theorem TagsMatch.answerHead (h : TagsMatch tags (t :: queue) owed) :
    TagsMatch (tags.filter (fun u => u ≠ t)) queue owed := by
  obtain ⟨notBehind, -⟩ := List.nodup_cons.1 h.queued
  have headLeft : (t :: queue).filter (fun u => u ≠ t) = queue := by
    rw [List.filter_cons_of_neg (by simp), List.filter_eq_self]
    exact fun u mem => decide_eq_true fun same => notBehind (same ▸ mem)
  have slotsStay : (fun j => (owed j).filter (fun u => u ≠ t)) = owed := by
    funext j
    exact filter_of_stays fun u found same => h.apart j u found (by simp [same])
  simpa only [headLeft, slotsStay] using h.answered fun u => u ≠ t

/-- The head of the queue becomes the entry of an empty slot (R164). -/
theorem TagsMatch.grantHead (h : TagsMatch tags (t :: queue) owed) (k : Nat) (empty : owed k = none) :
    TagsMatch tags queue (Function.update owed k (some t)) := by
  obtain ⟨notBehind, queued⟩ := List.nodup_cons.1 h.queued
  have owes (j : Nat) (u : Tag) :
      Function.update owed k (some t) j = some u ↔ (j = k ∧ t = u) ∨ owed j = some u := by
    by_cases here : j = k <;> simp [here, empty]
  have older (j : Nat) (u : Tag) (found : owed j = some u) : u ≠ t := fun same => h.apart j u found (by simp [same])
  refine ⟨h.once, queued, fun j u found => ?_, fun i j u left right => ?_, fun u => ?_⟩
  · rcases (owes j u).1 found with ⟨-, rfl⟩ | found
    · exact notBehind
    · exact fun mem => h.apart j u found (List.mem_cons_of_mem t mem)
  · rcases (owes i u).1 left with ⟨leftNew, same⟩ | leftOld <;>
      rcases (owes j u).1 right with ⟨rightNew, same'⟩ | rightOld
    · exact leftNew.trans rightNew.symm
    · exact absurd same.symm (older j u rightOld)
    · exact absurd same'.symm (older i u leftOld)
    · exact h.alone i j u leftOld rightOld
  · simp only [h.covered, List.mem_cons, owes, exists_or, exists_and_right, exists_eq, true_and]
    tauto

/-- A request with a fresh tag joins the queue (R155, R156). -/
theorem TagsMatch.accept (h : TagsMatch tags queue owed) (fresh : t ∉ tags) :
    TagsMatch (tags ++ [t]) (queue ++ [t]) owed := by
  have new : t ∉ queue ∧ ∀ k, owed k ≠ some t := by simpa [h.covered] using fresh
  refine ⟨h.once.append (by simp) (by simpa using fresh), h.queued.append (by simp) (by simpa using new.1), ?_, h.alone, ?_⟩
  · intro k u found mem
    rcases List.mem_append.1 mem with behind | last
    · exact h.apart k u found behind
    · exact new.2 k (List.mem_singleton.1 last ▸ found)
  · intro u
    simp only [List.mem_append, h.covered]
    tauto

end

/-! ## What an entry owes -/

/-- What an entry owes follows from its work and from whether it is in WRITEBACK (R71). -/
theorem OpenEntry.owes_congr {e f : OpenEntry} (work : f.work = e.work)
    (state : f.state = .writeback ↔ e.state = .writeback) (p : PortId) : f.owes p = e.owes p := by
  unfold OpenEntry.owes
  rw [work]
  simp only [ne_eq, state]

/-- The entry owes one request of one port its answer. -/
def OpenEntry.OwesOnly (e : OpenEntry) (q : PortId) (t : Tag) : Prop :=
  ∀ p, e.owes p = if q = p then some t else none

/-- The entry owes no port an answer. -/
def OpenEntry.OwesNothing (e : OpenEntry) : Prop := ∀ p, e.owes p = none

theorem OpenEntry.owesOnly_of_read {e : OpenEntry} {q : PortId} {t : Tag} (work : e.work = .demandRead q t)
    (unanswered : e.state ≠ .writeback) : e.OwesOnly q t := by
  intro p
  simp [OpenEntry.owes, work, unanswered]

theorem OpenEntry.owesOnly_of_write {e : OpenEntry} {q : PortId} {t : Tag} {mask : ByteMask} {data : LineData}
    (work : e.work = .demandWrite q t mask data) (unanswered : e.state ≠ .writeback) : e.OwesOnly q t := by
  intro p
  simp [OpenEntry.owes, work, unanswered]

/-- An entry in WRITEBACK has been answered or is a PATROL entry (R71, R80). -/
theorem OpenEntry.owesNothing_of_writeback {e : OpenEntry} (state : e.state = .writeback) : e.OwesNothing := by
  intro p
  unfold OpenEntry.owes
  cases e.work <;> simp [state]

theorem OpenEntry.owesNothing_of_patrol {e : OpenEntry} (work : e.work = .patrol) : e.OwesNothing := by
  intro p
  simp [OpenEntry.owes, work]

theorem OpenEntry.owesNothing_of_copyRead {e : OpenEntry} {n : BitVec 16} (work : e.work = .copyRead n) :
    e.OwesNothing := by
  intro p
  simp [OpenEntry.owes, work]

/-! ## What the slots owe -/

/-- The tag that the entry of a slot owes a port. -/
def State.owedAt (s : State) (p : PortId) (k : Nat) : Option Tag := (s.entryAt k).bind (OpenEntry.owes p)

theorem State.owedAt_of_found {s : State} {k : Nat} {e : OpenEntry} (found : s.entryAt k = some e) (p : PortId) :
    s.owedAt p k = e.owes p := by
  simp [State.owedAt, found]

theorem State.owedAt_of_empty {s : State} {k : Nat} (empty : s.entryAt k = none) (p : PortId) : s.owedAt p k = none := by
  simp [State.owedAt, empty]

theorem State.owedAt_of_olt {s t : State} (olt : t.olt = s.olt) (p : PortId) : t.owedAt p = s.owedAt p := by
  funext k
  rw [State.owedAt, State.owedAt, State.entryAt_of_olt olt]

theorem State.owedAt_putOpen (s : State) (k : Nat) (e : OpenEntry) (inside : k < s.olt.slots.length) (p : PortId) :
    (s.putOpen k e).owedAt p = Function.update (s.owedAt p) k (e.owes p) := by
  funext j
  rw [State.owedAt, s.entryAt_putOpen k j e inside]
  by_cases here : j = k <;> simp [here, State.owedAt]

/-- What waits on a slot that is left still owes what it owed (R67). -/
theorem retarget_owes (k : Nat) (w : WaitsOn) (e : Option OpenEntry) (p : PortId) :
    (retarget k w e).bind (OpenEntry.owes p) = e.bind (OpenEntry.owes p) := by
  cases e with
  | none => rfl
  | some e =>
    simp only [retarget, Option.bind_some]
    split
    next waiting => exact OpenEntry.owes_congr (e := e) (f := { e with state := .blocked w }) rfl (by simp [waiting]) p
    next => rfl

/-- What waits on the copy hold still owes what it owed when the hold ends (R53). -/
theorem releaseHold_owes (e : Option OpenEntry) (p : PortId) :
    (releaseHold e).bind (OpenEntry.owes p) = e.bind (OpenEntry.owes p) := by
  cases e with
  | none => rfl
  | some e =>
    simp only [releaseHold, Option.bind_some]
    split
    next held => exact OpenEntry.owes_congr (e := e) (f := { e with state := .blocked .turn }) rfl (by simp [held]) p
    next => rfl

/-- A slot that is left owes nothing, and the others owe what they owed (R67). -/
theorem State.owedAt_removeEntry (s : State) (k : Nat) (p : PortId) :
    (s.removeEntry k).owedAt p = Function.update (s.owedAt p) k none := by
  cases found : s.entryAt k with
  | none =>
    have unchanged : s.removeEntry k = s := by simp only [State.removeEntry, found]
    rw [unchanged, ← State.owedAt_of_empty found p, Function.update_eq_self]
  | some e =>
    funext j
    rw [State.owedAt, s.entryAt_removeEntry k j e found]
    by_cases here : j = k <;> simp [here, State.owedAt, retarget_owes]

theorem owedAt_removeEntries (ks : List Nat) (s : State) (p : PortId) (j : Nat) :
    (removeEntries ks s).owedAt p j = if j ∈ ks then none else s.owedAt p j := by
  induction ks generalizing s with
  | nil => simp [removeEntries]
  | cons k ks ih =>
    rw [removeEntries, ih, s.owedAt_removeEntry]
    by_cases here : j = k <;> simp [here]

/-- A granted slot owes what its entry owes (R66). -/
theorem State.owedAt_createEntry (s : State) (work : Work) (line : Nat) (cls : CheckClass) (k : Nat)
    (slot : s.emptySlot = some k) (p : PortId) :
    (s.createEntry work line cls).owedAt p =
      Function.update (s.owedAt p) k ((s.grantedEntry work line cls).owes p) := by
  funext j
  rw [State.owedAt, s.entryAt_createEntry work line cls k j slot]
  by_cases here : j = k <;> simp [here, State.owedAt]

theorem State.owedAt_endItem (s : State) (i : RetireItem) (r : CmdResult) (p : PortId) :
    (s.endItem i r).owedAt p = s.owedAt p := by
  have slots : (s.endItem i r).olt = { s.olt with slots := s.olt.slots.map releaseHold } := by simp [State.endItem]
  have entry (k : Nat) : (s.endItem i r).entryAt k = releaseHold (s.entryAt k) := by
    simp only [State.entryAt, slots, List.getD_eq_getElem?_getD, List.getElem?_map]
    cases s.olt.slots[k]? <;> rfl
  funext k
  rw [State.owedAt, entry, releaseHold_owes, State.owedAt]

/-! ## All four ports -/

/-- On every port the outstanding tags match the queue and what the slots owe (R154, R156). -/
def State.TagsKept (s : State) : Prop :=
  ∀ p, TagsMatch (s.ports.get p).tags ((s.ports.get p).queue.map Request.tag) (s.owedAt p)

/-- On every port they match but for slot k, whose request has been answered or has none. -/
def State.TagsKeptBut (s : State) (k : Nat) : Prop :=
  ∀ p, TagsMatch (s.ports.get p).tags ((s.ports.get p).queue.map Request.tag) (Function.update (s.owedAt p) k none)

theorem State.unanswered_eq (s : State) (p : PortId) :
    s.unanswered p = (s.ports.get p).queue.map Request.tag ++
      (List.range s.olt.slots.length).filterMap (s.owedAt p) := by
  have slots : s.olt.slots = (List.range s.olt.slots.length).map s.entryAt :=
    List.ext_getElem (by simp) fun k inside _ => by simp [State.entryAt, inside]
  have owed : (s.olt.slots.filterMap id).filterMap (OpenEntry.owes p) =
      (List.range s.olt.slots.length).filterMap (s.owedAt p) := by
    rw [List.filterMap_filterMap]
    conv_lhs => rw [slots]
    rw [List.filterMap_map]
    rfl
  exact congrArg _ owed

theorem State.tagsHeld_iff (s : State) : s.tagsHeld ↔ s.TagsKept := by
  have port (p : PortId) : TagsMatch (s.ports.get p).tags ((s.ports.get p).queue.map Request.tag) (s.owedAt p) ↔
      (s.ports.get p).tags.Nodup ∧ (s.ports.get p).tags.Perm (s.unanswered p) := by
    rw [s.unanswered_eq]
    refine tagsMatch_iff_perm _ _ _ _ fun k t owes => ?_
    obtain ⟨e, found, -⟩ := Option.bind_eq_some_iff.1 owes
    exact s.entryAt_lt k e found
  constructor
  · exact fun held p => (port p).2 (held p (by cases p <;> simp))
  · exact fun kept p _ => (port p).1 (kept p)

/-- A change that keeps the ports and what every slot owes. -/
theorem State.TagsKept.same {s t : State} (h : s.TagsKept) (ports : t.ports = s.ports)
    (owed : ∀ p, t.owedAt p = s.owedAt p) : t.TagsKept := by
  intro p
  rw [ports, owed]
  exact h p

theorem State.TagsKept.quiet {s t : State} (h : s.TagsKept) (olt : t.olt = s.olt) (ports : t.ports = s.ports) :
    t.TagsKept :=
  h.same ports (State.owedAt_of_olt olt)

theorem State.TagsKeptBut.quiet {s t : State} {k : Nat} (h : s.TagsKeptBut k) (olt : t.olt = s.olt)
    (ports : t.ports = s.ports) : t.TagsKeptBut k := by
  intro p
  rw [ports, State.owedAt_of_olt olt]
  exact h p

/-- An entry that owes nothing can be left out. -/
theorem State.TagsKept.but {s : State} (h : s.TagsKept) {k : Nat} {e : OpenEntry} (found : s.entryAt k = some e)
    (nothing : e.OwesNothing) : s.TagsKeptBut k := by
  intro p
  rw [← nothing p, ← State.owedAt_of_found found, Function.update_eq_self]
  exact h p

/-- The request of an entry is answered (R156). -/
theorem State.TagsKept.answer {s : State} (h : s.TagsKept) {k : Nat} {e : OpenEntry} (found : s.entryAt k = some e)
    (r : Response) (owes : e.OwesOnly r.port r.tag) : (s.answer r).TagsKeptBut k := by
  intro p
  obtain ⟨-, queue, tags⟩ := s.answer_spec r p
  rw [queue, tags, State.owedAt_of_olt (s := s) (by simp)]
  by_cases here : p = r.port
  · rw [if_pos here]
    exact (h p).answerSlot k (by rw [State.owedAt_of_found found, owes, if_pos here.symm])
  · rw [if_neg here]
    have nothing : s.owedAt p k = none := by rw [State.owedAt_of_found found, owes, if_neg (Ne.symm here)]
    rw [← nothing, Function.update_eq_self]
    exact h p

/-- The answered entry leaves (R67). -/
theorem State.TagsKeptBut.leave {s : State} {k : Nat} (h : s.TagsKeptBut k) : (s.removeEntry k).TagsKept := by
  intro p
  rw [s.owedAt_removeEntry]
  simpa using h p

theorem State.TagsKeptBut.quit {s t : State} {k : Nat} (h : s.TagsKeptBut k) (olt : t.olt = s.olt)
    (ports : t.ports = s.ports) : (t.removeEntry k).TagsKept :=
  (h.quiet olt ports).leave

/-- The answered entry goes on as one that owes nothing (R71). -/
theorem State.TagsKeptBut.stay {s : State} {k : Nat} (h : s.TagsKeptBut k) (inside : k < s.olt.slots.length)
    {e : OpenEntry} (nothing : e.OwesNothing) : (s.putOpen k e).TagsKept := by
  intro p
  rw [s.owedAt_putOpen k e inside, nothing]
  simpa using h p

/-- An entry goes on and owes what it owed. -/
theorem State.TagsKept.change {s : State} (h : s.TagsKept) {k : Nat} {e x : OpenEntry} (found : s.entryAt k = some x)
    (owes : ∀ p, e.owes p = x.owes p) : (s.putOpen k e).TagsKept := by
  refine h.same (by simp) fun p => ?_
  rw [s.owedAt_putOpen k e (s.entryAt_lt k x found), owes, ← State.owedAt_of_found found, Function.update_eq_self]

end Sys2Proof.Machine
end

section
/-!
PROOFS. Every step keeps each port's outstanding tags those of its unanswered requests (R154, R156): a tag comes with an
acceptance, moves with its request from the queue to a slot, and goes with the answer.
-/

namespace Sys2Proof.Machine

/-! ## Acceptance and grants (R155, R164) -/

theorem State.TagsKept.queueRequest {s : State} (h : s.TagsKept) (p : PortId) (r : Request)
    (fresh : r.tag ∉ (s.ports.get p).tags) : (s.queueRequest p r).TagsKept := by
  intro q
  rw [State.owedAt_of_olt (s := s) (by simp), State.queueRequest, State.setPorts_ports, Ports.get_set]
  split
  next here =>
    subst here
    simpa using (h q).accept fresh
  next => exact h q

theorem State.TagsKept.acceptRequest {s : State} (h : s.TagsKept) (p : PortId) (r : Request) :
    (s.acceptRequest p r).TagsKept := by
  have answered (st : RespStatus) : (s.present (plainAnswer p r st)).TagsKept := h.quiet rfl rfl
  unfold State.acceptRequest
  split
  · split
    · exact answered _
    next fresh =>
      split
      · exact h.queueRequest p r fresh
      all_goals exact answered _
  · exact h

/-- On every port the tags match, with one request in hand: it has left port p's queue and is not yet answered. -/
def State.TagsKeptWith (s : State) (p : PortId) (t : Tag) : Prop :=
  ∀ q, TagsMatch (s.ports.get q).tags
    (if q = p then t :: (s.ports.get q).queue.map Request.tag else (s.ports.get q).queue.map Request.tag) (s.owedAt q)

/-- The head of a queue is taken in hand (R158). -/
theorem State.TagsKept.take {s : State} (h : s.TagsKept) (p : PortId) (r : Request) (rest : List Request)
    (queue : (s.ports.get p).queue = r :: rest) : (s.headGranted p).TagsKeptWith p r.tag := by
  intro q
  have ports : (s.headGranted p).ports.get q =
      if q = p then { queue := rest, tags := (s.ports.get p).tags } else s.ports.get q := by
    simp only [State.headGranted, State.setArbiter_ports, State.setPorts_ports, Ports.headTaken, Ports.get_set, queue,
      List.tail_cons]
  have whole := h q
  rw [ports, State.owedAt_of_olt (s := s) (t := s.headGranted p) rfl]
  by_cases here : q = p
  · subst here
    rw [queue] at whole
    simpa using whole
  · simpa [here] using whole

/-- The request in hand is answered (R147, R156). -/
theorem State.TagsKeptWith.answer {s : State} {p : PortId} {t : Tag} (h : s.TagsKeptWith p t) (r : Response)
    (port : r.port = p) (tag : r.tag = t) : (s.answer r).TagsKept := by
  intro q
  obtain ⟨-, queue, tags⟩ := s.answer_spec r q
  have whole := h q
  rw [queue, tags, State.owedAt_of_olt (s := s) (by simp), port, tag]
  by_cases here : q = p
  · rw [if_pos here] at whole ⊢
    exact whole.answerHead
  · rw [if_neg here] at whole ⊢
    exact whole

/-- The request in hand becomes an entry that owes it (R164). -/
theorem State.TagsKeptWith.grant {s : State} {p : PortId} {t : Tag} (h : s.TagsKeptWith p t) {k : Nat}
    (slot : s.emptySlot = some k) (work : Work) (line : Nat) (cls : CheckClass)
    (owes : (s.grantedEntry work line cls).OwesOnly p t) : (s.createEntry work line cls).TagsKept := by
  intro q
  have empty : s.owedAt q k = none := State.owedAt_of_empty (s.emptySlot_some k slot).2.1 q
  have ports : (s.createEntry work line cls).ports = s.ports := by simp
  have whole := h q
  rw [ports, s.owedAt_createEntry work line cls k slot, owes]
  by_cases here : q = p
  · rw [if_pos here] at whole
    rw [if_pos here.symm]
    exact whole.grantHead k empty
  · rw [if_neg here] at whole
    rw [if_neg (Ne.symm here), ← empty, Function.update_eq_self]
    exact whole

/-- The head in hand is refused, answered, or granted (R74, R147, R164). -/
theorem State.TagsKeptWith.grantHead {s : State} {p : PortId} {r : Request} (h : s.TagsKeptWith p r.tag) {k : Nat}
    (slot : s.emptySlot = some k) : (s.grantHead p r).TagsKept := by
  have answered (st : RespStatus) : (s.answer (plainAnswer p r st)).TagsKept := h.answer _ rfl rfl
  have refused (st : RespStatus) (d : DenyReason) : (s.refuse p r st d).TagsKept :=
    (answered st).quiet (by simp [State.refuse]) (by simp [State.refuse])
  unfold State.grantHead
  split
  · exact refused _ _
  · split
    · split
      · exact h.grant slot _ _ _ (OpenEntry.owesOnly_of_read rfl (by simp [State.grantedEntry]))
      · exact refused _ _
    · split
      · split
        · exact refused _ _
        · split
          · exact answered _
          · exact h.grant slot _ _ _ (OpenEntry.owesOnly_of_write rfl (by simp [State.grantedEntry]))
      · exact refused _ _

/-- A grant needs an empty slot (R160). -/
theorem State.emptySlot_of_choice {s : State} {g : Grant} (chosen : s.choice = some g) : ∃ k, s.emptySlot = some k :=
  Option.ne_none_iff_exists'.1 fun full => by simp [State.choice_of_full full] at chosen

theorem State.TagsKept.grantPortHead {s : State} (h : s.TagsKept) : s.grantPortHead.TagsKept := by
  cases chosen : s.choice with
  | none => simpa only [State.grantPortHead, chosen] using h
  | some g =>
    cases g with
    | copyRead | patrol => simpa only [State.grantPortHead, chosen] using h
    | port p =>
      obtain ⟨k, slot⟩ := State.emptySlot_of_choice chosen
      cases queue : (s.ports.get p).queue with
      | nil => simpa only [State.grantPortHead, chosen, State.grantPort, queue] using h
      | cons r rest =>
        rw [s.grantPortHead_eq p r rest chosen queue]
        exact (h.take p r rest queue).grantHead (k := k) slot

/-- A grant of a unit makes an entry that owes nothing (R44, R111). -/
theorem State.TagsKept.grantUnit {s : State} (h : s.TagsKept) (work : Work) (line : Nat) (cls : CheckClass)
    (nothing : (s.grantedEntry work line cls).OwesNothing) : (s.createEntry work line cls).TagsKept := by
  cases slot : s.emptySlot with
  | none => simpa [State.createEntry, slot] using h
  | some k =>
    refine h.same (by simp) fun p => ?_
    rw [s.owedAt_createEntry work line cls k slot, nothing,
      ← State.owedAt_of_empty (s.emptySlot_some k slot).2.1 p, Function.update_eq_self]

theorem State.TagsKept.grantCopyRead {s : State} (h : s.TagsKept) : s.grantCopyRead.TagsKept := by
  unfold State.grantCopyRead State.grantCopy
  split
  · split
    · exact h
    · exact h.grantUnit _ _ _ (OpenEntry.owesNothing_of_copyRead rfl)
  all_goals exact h

theorem State.TagsKept.grantPatrolUnit {s : State} (h : s.TagsKept) : s.grantPatrolUnit.TagsKept := by
  unfold State.grantPatrolUnit State.grantPatrol
  split
  · split
    · exact h
    · have cleared : s.clearWait.TagsKept := h.quiet rfl rfl
      split
      · exact (cleared.grantUnit .patrol _ .checked (OpenEntry.owesNothing_of_patrol rfl)).quiet rfl rfl
      · exact cleared.quiet (by simp) (by simp)
  all_goals exact h

/-! ## Entry to HALTED (R168, R180) -/

/-- The halt answers just what the entries that it removes owe (R168, R180). -/
theorem OpenEntry.haltAnswer_tag (e : OpenEntry) (p : PortId) :
    (e.haltAnswer p).map Response.tag = if e.haltRemoves then e.owes p else none := by
  unfold OpenEntry.haltAnswer OpenEntry.haltRemoves OpenEntry.owes
  cases e.state with
  | blocked w =>
    cases e.work with
    | demandRead | demandWrite =>
      simp only [apply_ite (Option.map Response.tag), Option.map_some, Option.map_none, ne_eq, reduceCtorEq,
        not_false_eq_true, and_true, ↓reduceIte]
    | patrol | copyRead => rfl
  | _ => rfl

/-- The halt leaves a tag in a port's set when none of its answers there has the tag (R168). -/
def State.haltKeeps (s : State) (p : PortId) (t : Tag) : Bool := !(s.haltAnswers p).any (fun r => r.tag == t)

/-- The halt answers the queued requests and the entries that it removes (R168, R180). -/
theorem State.haltKeeps_eq_false_iff (s : State) (p : PortId) (t : Tag) :
    s.haltKeeps p t = false ↔
      (∃ k ∈ s.olt.order.filter s.haltRemovesSlot, s.owedAt p k = some t) ∨
      t ∈ (s.ports.get p).queue.map Request.tag := by
  have slot (k : Nat) : ((s.entryAt k).bind (OpenEntry.haltAnswer · p)).map Response.tag =
      if s.haltRemovesSlot k then s.owedAt p k else none := by
    rw [State.haltRemovesSlot, State.owedAt]
    cases s.entryAt k with
    | none => rfl
    | some e => exact e.haltAnswer_tag p
  have entries : (∃ r ∈ s.olt.order.filterMap (fun k => (s.entryAt k).bind (OpenEntry.haltAnswer · p)), r.tag = t) ↔
      ∃ k ∈ s.olt.order.filter s.haltRemovesSlot, s.owedAt p k = some t := by
    rw [← List.mem_map, List.map_filterMap]
    simp only [slot, List.mem_filterMap, List.mem_filter, and_assoc]
    refine exists_congr fun k => and_congr_right fun _ => ?_
    cases s.haltRemovesSlot k <;> simp
  have answered : s.haltKeeps p t = false ↔ ∃ r ∈ s.haltAnswers p, r.tag = t := by simp [State.haltKeeps]
  rw [answered]
  simp only [State.haltAnswers, List.mem_append, or_and_right, exists_or, entries]
  simp [queuedHaltAnswer]

/-- A slot that the halt leaves still owes its tag, and one that it removes owes none (R180). -/
theorem State.TagsKept.owedAt_filter_haltKeeps {s : State} (h : s.TagsKept) (p : PortId) (k : Nat) :
    (s.owedAt p k).filter (s.haltKeeps p) = s.haltTable.owedAt p k := by
  rw [State.haltTable, owedAt_removeEntries]
  cases owes : s.owedAt p k with
  | none => simp
  | some t =>
    have leaves : s.haltKeeps p t = false ↔ k ∈ s.olt.order.filter s.haltRemovesSlot := by
      rw [s.haltKeeps_eq_false_iff]
      refine ⟨?_, fun removed => Or.inl ⟨k, removed, owes⟩⟩
      rintro (⟨j, removed, same⟩ | queued)
      · exact (h p).alone j k t same owes ▸ removed
      · exact absurd queued ((h p).apart k t owes)
    by_cases removed : k ∈ s.olt.order.filter s.haltRemovesSlot
    · rw [if_pos removed, Option.filter_some_neg (by simp [leaves.2 removed])]
    · rw [if_neg removed, Option.filter_some_pos (Bool.eq_true_of_not_eq_false (mt leaves.1 removed))]

/-- Every port's HALTED answers release the tags of its queue and of the entries that leave (R168, R180). -/
theorem State.TagsKept.haltPorts_haltTable {s : State} (h : s.TagsKept) : s.haltPorts.haltTable.TagsKept := by
  intro p
  have ports : s.haltPorts.haltTable.ports.get p = (s.ports.get p).afterAnswers (s.haltAnswers p) := by
    rw [show s.haltPorts.haltTable.ports = s.haltPorts.ports by simp]
    cases p <;> rfl
  have owed : s.haltPorts.haltTable.owedAt p = s.haltTable.owedAt p := by
    funext k
    exact (owedAt_removeEntries _ s.haltPorts p k).trans (owedAt_removeEntries _ s p k).symm
  have queueAnswered : ((s.ports.get p).queue.map Request.tag).filter (s.haltKeeps p) = [] :=
    List.filter_eq_nil_iff.2 fun t queued => by simp [(s.haltKeeps_eq_false_iff p t).2 (Or.inr queued)]
  have kept := (h p).answered (s.haltKeeps p)
  rw [queueAnswered, funext (h.owedAt_filter_haltKeeps p)] at kept
  rw [ports, owed]
  exact kept

theorem State.TagsKept.endItem {s : State} (h : s.TagsKept) (i : RetireItem) (r : CmdResult) : (s.endItem i r).TagsKept :=
  h.same (by simp) (s.owedAt_endItem i r)

theorem State.TagsKept.copyHalt {s : State} (h : s.TagsKept) : s.copyHalt.TagsKept := by
  unfold State.copyHalt
  split
  · exact h
  · exact State.TagsKept.endItem (h.quiet (by simp) (by simp)) _ .aborted

theorem State.TagsKept.haltWork {s : State} (h : s.TagsKept) :
    s.haltPorts.haltTable.copyHalt.patrolHalt.haltRtq.haltStop.TagsKept :=
  h.haltPorts_haltTable.copyHalt.quiet (by simp) (by simp)

theorem State.TagsKept.haltOnUe {s : State} (h : s.TagsKept) (line : Nat) : (s.haltOnUe line).TagsKept := by
  unfold State.haltOnUe
  split
  · exact State.TagsKept.haltWork (h.quiet (by simp) (by simp))
  · exact h

/-! ## The Copy Unit's work on an item (R46 to R53) -/

theorem State.TagsKept.issueTarget {s : State} (h : s.TagsKept) : s.issueTarget.TagsKept := h.quiet (by simp) (by simp)

theorem State.TagsKept.commit {s : State} (h : s.TagsKept) (i : RetireItem) : (s.commit i).TagsKept := by
  unfold State.commit
  dsimp only
  split
  · exact State.TagsKept.endItem (h.quiet (by simp) (by simp)) i .done
  · exact State.TagsKept.endItem (h.quiet (by simp) (by simp)) i .done

theorem State.TagsKept.verifyFailed {s : State} (h : s.TagsKept) (i : RetireItem) : (s.verifyFailed i).TagsKept := by
  unfold State.verifyFailed
  split
  · unfold State.moveVerifyFailed
    dsimp only
    split
    · split
      · exact h.quiet (by simp) (by simp)
      · exact State.TagsKept.endItem (h.quiet (by simp) (by simp)) i .noSpare
    · exact State.TagsKept.endItem (h.quiet (by simp) (by simp)) i .failed
  · exact State.TagsKept.endItem (h.quiet (by simp) (by simp)) i .failed

theorem State.TagsKept.verifyGood {s : State} (h : s.TagsKept) (i : RetireItem) : (s.verifyGood i).TagsKept := by
  unfold State.verifyGood
  split
  · split <;> exact h.quiet (by simp) (by simp)
  · exact h.commit i

/-! ## Issue (R68) -/

/-- A demand entry that issues is answered from the copy buffer, or goes on with its answer outstanding (R57 to R61). -/
theorem State.TagsKept.issueEntry {s : State} (h : s.TagsKept) (k : Nat) (due : s.slotDue k = true) :
    (s.issueEntry k).TagsKept := by
  obtain ⟨e, found, turn⟩ := s.slotDue_spec k due
  have waiting : e.state ≠ .writeback := by simp [turn]
  have moves (t : State) (pl : Option Place) (st : EntryState) (going : st ≠ .writeback) (olt : t.olt = s.olt)
      (ports : t.ports = s.ports) : (t.putOpen k { e with place := pl, state := st }).TagsKept :=
    (h.quiet olt ports).change ((State.entryAt_of_olt olt k).trans found)
      (OpenEntry.owes_congr (e := e) (f := { e with place := pl, state := st }) rfl (by simp [going, waiting]))
  have reads (l : Loc) (decoded : Bool) : (s.issueEntryRead k e l decoded).TagsKept :=
    moves _ (some (.loc l)) .reading (by simp) rfl rfl
  unfold State.issueEntry
  simp only [found]
  split
  next patrol =>
    split
    · exact (h.but found (OpenEntry.owesNothing_of_patrol patrol)).leave.quiet (by simp [State.patrolSkip])
        (by simp [State.patrolSkip])
    · exact reads _ _
  next => exact reads _ _
  next p t read =>
    split
    · exact reads _ _
    · have served (r : Response) (port : r.port = p) (tag : r.tag = t) : (s.answer r).TagsKeptBut k :=
        h.answer found r (port ▸ tag ▸ OpenEntry.owesOnly_of_read read waiting)
      unfold State.serveRead
      dsimp only
      split
      · exact (served { port := p, tag := t, status := .poisoned, data := some 0, mask := 0 } rfl rfl).quit (by simp)
          (by simp)
      · exact (served _ rfl rfl).leave
  next p t mask data write =>
    split
    · unfold State.issueArrayWrite
      split
      · exact moves _ _ .writing (by simp) rfl rfl
      · exact reads _ _
    · unfold State.issueBufferWrite
      split
      · exact moves s e.place (.blocked .copyHold) (by simp) rfl rfl
      · split
        · exact (h.answer found { port := p, tag := t, status := .poisoned, data := none, mask := 0 }
            (OpenEntry.owesOnly_of_write write waiting)).quit (by simp) (by simp)
        · exact moves _ _ .writing (by simp) rfl rfl

theorem issueDue_tagsKept (n : Nat) {s : State} (h : s.TagsKept) : (issueDue n s).TagsKept := by
  induction n generalizing s with
  | zero => exact h
  | succ n ih =>
    simp only [issueDue]
    split
    · exact h
    next k slot => exact ih (h.issueEntry k (List.find?_some slot))

theorem State.TagsKept.settleIssues {s : State} (h : s.TagsKept) : s.settleIssues.TagsKept := issueDue_tagsKept _ h

theorem State.TagsKept.newStep {s : State} (h : s.TagsKept) : s.newStep.TagsKept := h.quiet rfl rfl

/-- Item starts and the ends of fills, drains and STOPs answer no request. -/
theorem State.TagsKept.opened {s : State} (h : s.TagsKept) : s.opened.TagsKept :=
  h.newStep.settleIssues.quiet (by simp [State.opened, State.settle]) (by simp [State.opened, State.settle])

end Sys2Proof.Machine
end

section
/-!
PROOFS. Completions and the step itself keep each port's outstanding tags (R70 to R81, R154, R156).
-/

namespace Sys2Proof.Machine

/-! ## Completions (R70 to R81) -/

/-- A completion at the array changes neither ports nor table. -/
theorem State.TagsKept.finish {s : State} (h : s.TagsKept) (op : ArrayOp) : (s.finishOp op).TagsKept := h.quiet rfl rfl

/-- An answered entry leaves after changes that ports and table do not see. -/
theorem State.TagsKept.answerQuit {s t : State} (h : s.TagsKept) {k : Nat} {e : OpenEntry} (found : s.entryAt k = some e)
    (r : Response) (owes : e.OwesOnly r.port r.tag) (olt : t.olt = (s.answer r).olt)
    (ports : t.ports = (s.answer r).ports) : (t.removeEntry k).TagsKept :=
  (h.answer found r owes).quit olt ports

theorem State.TagsKept.readOk {s : State} (h : s.TagsKept) {k : Nat} {e : OpenEntry} (found : s.entryAt k = some e)
    {p : PortId} {t : Tag} (owes : e.OwesOnly p t) (d : LineData) : (s.readOk k p t d).TagsKept :=
  h.answerQuit found { port := p, tag := t, status := .ok, data := some d, mask := 0 } owes rfl rfl

/-- A decoded read is answered with any outcome; under WRITEBACK_ON_CORRECT its entry goes on (R71). -/
theorem State.TagsKept.readDecoded {s : State} (h : s.TagsKept) {k : Nat} {e : OpenEntry} (found : s.entryAt k = some e)
    {p : PortId} {t : Tag} (owes : e.OwesOnly p t) (r : LineRead) : (s.readDecoded k e p t r).TagsKept := by
  unfold State.readDecoded
  split
  · exact h.readOk found owes r.data
  · unfold State.readCorrected
    dsimp only
    have answered := h.answer found
      { port := p, tag := t, status := .corrected, data := some r.data, mask := r.corrected } owes
    split
    · refine State.TagsKeptBut.stay (answered.quiet (by simp) (by simp)) ?_ (OpenEntry.owesNothing_of_writeback rfl)
      simpa using s.entryAt_lt k e found
    · exact answered.quit (by simp) (by simp)
  · exact (h.answerQuit found
      { port := p, tag := t, status := .dataError, data := some r.data, mask := r.corrected } owes (by simp)
      (by simp)).haltOnUe _
  · exact h.answerQuit found { port := p, tag := t, status := .poisoned, data := some 0, mask := 0 } owes (by simp)
      (by simp)

theorem State.TagsKept.demandReadDone {s : State} (h : s.TagsKept) (k : Nat) : (s.demandReadDone k).TagsKept := by
  unfold State.demandReadDone
  split
  · exact h
  next e op entry =>
    have found : (s.finishOp op).entryAt k = some e := (s.entryOp_spec k e op entry).1
    split
    next work reading _ =>
      exact (h.finish op).readDecoded found (OpenEntry.owesOnly_of_read work (by simp [reading])) _
    next work reading _ => exact (h.finish op).readOk found (OpenEntry.owesOnly_of_read work (by simp [reading])) _
    next => exact h

/-- The merged line is written with the answer outstanding (R76, R79). -/
theorem State.TagsKept.writeMerged {s : State} (h : s.TagsKept) {k : Nat} {e : OpenEntry} (found : s.entryAt k = some e)
    (reading : e.state = .reading) (mask : ByteMask) (data old : LineData) (res : Option EntryResult) :
    (s.writeMerged k e mask data old res).TagsKept :=
  State.TagsKept.change (s := s.issueWrite _ _ _ _) (h.quiet rfl rfl) found
    (OpenEntry.owes_congr (e := e) rfl (by simp [reading]))

/-- The line is poisoned with the answer outstanding (R77). -/
theorem State.TagsKept.partialUncorrectable {s : State} (h : s.TagsKept) {k : Nat} {e : OpenEntry}
    (found : s.entryAt k = some e) (reading : e.state = .reading) (p : PortId) (r : LineRead) :
    (s.partialUncorrectable k e p r).TagsKept := by
  have poisons (res : Option EntryResult) :
      ((s.issuePoison e.loc e.line (.engine k)).putOpen k { e with state := .writing, result := res }).TagsKept :=
    State.TagsKept.change (s := s.issuePoison _ _ _) (h.quiet rfl rfl) found
      (OpenEntry.owes_congr (e := e) rfl (by simp [reading]))
  exact (poisons (some { outcome := r.outcome, corrected := r.corrected })).quiet
    (by simp [State.partialUncorrectable]) (by simp [State.partialUncorrectable])

theorem State.TagsKept.partialReadDone {s : State} (h : s.TagsKept) (k : Nat) : (s.partialReadDone k).TagsKept := by
  unfold State.partialReadDone
  split
  · exact h
  next e op entry =>
    have found : (s.finishOp op).entryAt k = some e := (s.entryOp_spec k e op entry).1
    have done := h.finish op
    split
    next p t _ _ work reading _ =>
      unfold State.partialDecoded
      split
      · exact done.writeMerged found reading _ _ _ _
      · refine State.TagsKept.writeMerged (done.quiet (by simp) (by simp)) ?_ reading _ _ _ _
        exact (State.entryAt_of_olt (by simp) k).trans found
      · exact done.partialUncorrectable found reading _ _
      · exact done.answerQuit found { port := p, tag := t, status := .poisoned, data := none, mask := 0 }
          (OpenEntry.owesOnly_of_write work (by simp [reading])) (by simp) (by simp)
    next reading _ => exact done.writeMerged found reading _ _ _ _
    next => exact h

theorem State.TagsKept.demandWriteDone {s : State} (h : s.TagsKept) (k : Nat) : (s.demandWriteDone k).TagsKept := by
  unfold State.demandWriteDone
  split
  · exact h
  next e op entry =>
    split
    next work writing =>
      split
      · exact h
      · exact (h.finish op).answerQuit (s.entryOp_spec k e op entry).1 _
          (OpenEntry.owesOnly_of_write work (by simp [writing])) rfl rfl
    next => exact h

theorem State.TagsKept.poisonWriteDone {s : State} (h : s.TagsKept) (k : Nat) : (s.poisonWriteDone k).TagsKept := by
  unfold State.poisonWriteDone
  split
  · exact h
  next e op entry =>
    split
    next p t _ _ work writing =>
      split
      · exact ((h.finish op).answerQuit (s.entryOp_spec k e op entry).1
          { port := p, tag := t, status := .dataError, data := none, mask := writeMask e.result }
          (OpenEntry.owesOnly_of_write work (by simp [writing])) (by simp) (by simp)).haltOnUe _
      · exact h
    next => exact h

theorem State.TagsKept.sourceWriteDone {s : State} (h : s.TagsKept) (k : Nat) : (s.sourceWriteDone k).TagsKept := by
  unfold State.sourceWriteDone
  split
  · exact h
  next e op entry =>
    split
    next work writing =>
      split
      · exact (h.finish op).answerQuit (s.entryOp_spec k e op entry).1 _
          (OpenEntry.owesOnly_of_write work (by simp [writing])) rfl rfl
      · exact h
    next => exact h

/-- An entry that owes nothing leaves when its operation completes. -/
theorem State.TagsKept.completed {s : State} (h : s.TagsKept) {k : Nat} {e : OpenEntry} {op : ArrayOp}
    (entry : s.entryOp k = some (e, op)) (nothing : e.OwesNothing) : (s.finishOp op).TagsKeptBut k :=
  (h.finish op).but (s.entryOp_spec k e op entry).1 nothing

theorem State.TagsKept.writebackDone {s : State} (h : s.TagsKept) (k : Nat) : (s.writebackDone k).TagsKept := by
  unfold State.writebackDone
  split
  · exact h
  next entry =>
    split
    next written => exact (h.completed entry (OpenEntry.owesNothing_of_writeback written)).leave
    next => exact h

/-- The PATROL entry leaves; what the Patrol Unit does next the ports do not see (R114). -/
theorem State.TagsKeptBut.endPatrolEntry {s t : State} {k : Nat} (h : s.TagsKeptBut k) (olt : t.olt = s.olt)
    (ports : t.ports = s.ports) : (t.endPatrolEntry k).TagsKept :=
  (h.quit olt ports).quiet (by simp [State.endPatrolEntry]) (by simp [State.endPatrolEntry])

theorem State.TagsKept.patrolReadDone {s : State} (h : s.TagsKept) (k : Nat) : (s.patrolReadDone k).TagsKept := by
  unfold State.patrolReadDone
  split
  · exact h
  next e op entry =>
    have inside := s.entryAt_lt k e (s.entryOp_spec k e op entry).1
    split
    next patrol _ _ =>
      have done := h.completed entry (OpenEntry.owesNothing_of_patrol patrol)
      unfold State.patrolOutcome
      dsimp only
      split
      · exact done.endPatrolEntry (by simp) (by simp)
      · exact State.TagsKeptBut.stay (done.quiet (by simp) (by simp)) (by simpa using inside)
          (OpenEntry.owesNothing_of_writeback rfl)
      · split
        · exact State.TagsKeptBut.stay (done.quiet (by simp) (by simp)) (by simpa using inside)
            (OpenEntry.owesNothing_of_writeback rfl)
        · exact done.endPatrolEntry (by simp) (by simp)
      · exact done.endPatrolEntry (by simp) (by simp)
    next => exact h

theorem State.TagsKept.scrubWriteDone {s : State} (h : s.TagsKept) (k : Nat) : (s.scrubWriteDone k).TagsKept := by
  unfold State.scrubWriteDone
  split
  · exact h
  next entry =>
    split
    next patrol _ => exact (h.completed entry (OpenEntry.owesNothing_of_patrol patrol)).endPatrolEntry rfl rfl
    next => exact h

/-! ## The Copy Unit's rows (R45 to R56) -/

theorem State.TagsKept.afterCopyRead {s : State} {k : Nat} (h : (s.removeEntry k).TagsKept) (waiterFirst : Bool) :
    (s.afterCopyRead k waiterFirst).TagsKept := by
  unfold State.afterCopyRead
  split
  · exact h.settleIssues.issueTarget
  · exact h.issueTarget

theorem State.TagsKept.copyReadDone {s : State} (h : s.TagsKept) (k : Nat) (waiterFirst : Bool) :
    (s.copyReadDone k waiterFirst).TagsKept := by
  unfold State.copyReadDone
  split
  · exact h
  next entry =>
    split
    next copy _ _ =>
      split
      · exact State.TagsKept.afterCopyRead
          ((h.completed entry (OpenEntry.owesNothing_of_copyRead copy)).quit (by simp) (by simp)) waiterFirst
      · exact h
    next copy _ _ =>
      split
      · exact State.TagsKept.afterCopyRead
          ((h.completed entry (OpenEntry.owesNothing_of_copyRead copy)).quit (by simp) (by simp)) waiterFirst
      · exact h
    next => exact h

theorem State.TagsKept.verifyDone {s : State} (h : s.TagsKept) : s.verifyDone.TagsKept := by
  unfold State.verifyDone
  split
  next op _ _ _ =>
    unfold State.verifyOutcome
    split
    · exact (h.finish op).verifyGood _
    · exact (h.finish op).verifyFailed _
  next => exact h

theorem State.TagsKept.lateDone {s : State} (h : s.TagsKept) (op : LateOp) : (s.lateDone op).TagsKept := by
  cases op with
  | entry k =>
    simp only [State.lateDone, State.lateEntry]
    split
    · exact h
    next entry =>
      split
      next copy _ =>
        split
        · exact h
        · exact (h.completed entry (OpenEntry.owesNothing_of_copyRead copy)).leave
      next => exact h
  | array phys => exact h.quiet (by simp [State.lateDone]) (by simp [State.lateDone])

/-! ## One command, one step -/

/-- Empty queues, no tags and an empty table, as a reset leaves them (R87, R169). -/
theorem State.tagsKept_of_empty (s : State) (olt : s.olt = .empty) (ports : s.ports = .empty) : s.TagsKept := by
  have reset : State.reset.TagsKept := State.reset.tagsHeld_iff.1 (by decide +kernel)
  exact reset.quiet olt ports

/-- The next state is the one that a command answers. -/
theorem State.TagsKept.of_next {u t : State} (h : (.next u : Result) = .next t) (kept : u.TagsKept) : t.TagsKept :=
  Host.Outcome.next.inj h ▸ kept

theorem exec_tagsKept (c : Instr) (s t : State) (kept : s.TagsKept) (h : exec c s = .next t) : t.TagsKept := by
  have opened := kept.opened
  have issued := kept.newStep.settleIssues
  cases c with
  | powerOnReset | warmReset => exact .of_next h (State.tagsKept_of_empty _ rfl rfl)
  | requestAccept p r => exact .of_next h (opened.acceptRequest p r)
  | grantPortHead => exact .of_next h opened.grantPortHead
  | grantCopyRead => exact .of_next h opened.grantCopyRead
  | grantPatrol => exact .of_next h opened.grantPatrolUnit
  | entryIssue k =>
    refine .of_next h ?_
    unfold State.issueIfDue
    split
    next due => exact kept.newStep.issueEntry k due
    next => exact kept.newStep
  | demandReadComplete k => exact .of_next h (opened.demandReadDone k)
  | partialWriteReadComplete k => exact .of_next h (opened.partialReadDone k)
  | demandWriteComplete k => exact .of_next h (opened.demandWriteDone k)
  | rmwPoisonWriteComplete k => exact .of_next h (opened.poisonWriteDone k)
  | sourceWriteComplete k => exact .of_next h (opened.sourceWriteDone k)
  | writebackComplete k => exact .of_next h (opened.writebackDone k)
  | patrolReadComplete k => exact .of_next h (opened.patrolReadDone k)
  | scrubWriteComplete k => exact .of_next h (opened.scrubWriteDone k)
  | copyReadComplete k w => exact .of_next h (opened.copyReadDone k w)
  | verifyComplete => exact .of_next h opened.verifyDone
  | lateCompletion op => exact .of_next h (opened.lateDone op)
  | itemStart | initFillEnd | drainComplete | haltedStopComplete =>
    exact .of_next h (issued.quiet (by simp) (by simp))
  | arrayCellFault phys word bits =>
    simp only [exec, execArrayCellFault] at h
    split at h
    · exact .of_next h (opened.quiet (by simp) (by simp))
    · cases h
  | resetRelease | targetWriteComplete | patrolTimerExpiry | fillWriteIssue | fillWriteComplete | init | start | stop
  | setRegion | clearRegion | retire | release | loadRemap | markSpareBad | scrub | inject | clearSuspects
  | unknownCommand | commandRefused | arrayCfgWrite | suspectCfgWrite | patrolCfgWrite | irqCauseWrite | irqEnableWrite
  | cmdStatusWrite | recPop | counterClear | registerWrite =>
    exact .of_next h (opened.quiet (by simp [State.commandWrite]) (by simp [State.commandWrite]))

/-- Settles O57: what is due and the command of a step keep the tags matched to the requests, whatever the table's
order, and no use is made of the number of its slots. -/
theorem everyStepKeepsTagsHeld : Obligations.EveryStepKeepsTagsHeld := by
  intro s t _ held h
  have kept := s.tagsHeld_iff.1 held
  refine t.tagsHeld_iff.2 ?_
  unfold step at h
  split at h
  · exact .of_next h kept.opened
  next c rest _ => exact exec_tagsKept c (s.setPending rest) t (kept.quiet rfl rfl) h

end Sys2Proof.Machine
end

section
/-!
PROOFS. The fill, the ends of a drain and of a waiting STOP, and the commands INIT, START and STOP (R110, R171 to R178).
-/

namespace Sys2Proof.Machine

/-! ## The fill (R172, R173) -/

/-- While lines are left the fill issues the write of the next one (R172). -/
theorem State.fillIssue_next (u : State) (filling : u.ctl.state = .initializing)
    (left : u.ctl.initProgress < u.aif.size.logical) :
    u.fillIssue = (u.issueWrite (u.sourceLoc u.ctl.initProgress) u.ctl.initProgress 0 .controller).setCtl
      { u.ctl with initProgress := u.ctl.initProgress + 1 } :=
  if_pos ⟨filling, left⟩

/-- A fill write that can complete does, and nothing else happens (R172). -/
theorem State.fillDone_finishes (u : State) (line : Nat) (op : ArrayOp)
    (completes : u.completable (fun o => decide (o.issuer = .controller ∧ o.line = line)) = some op) :
    u.fillDone line = u.finishOp op := by
  rw [State.fillDone, completes]

/-- The fill has ended once every line is issued and no fill write is outstanding (R173). -/
theorem State.fillEndDue_iff (u : State) :
    u.fillEndDue = true ↔ (u.ctl.state = .initializing ∧ u.ctl.initProgress = u.aif.size.logical) ∧
      ∀ o ∈ u.aif.ops, o.issuer ≠ .controller := by
  simp only [State.fillEndDue, State.fillOutstanding, Bool.and_eq_true, decide_eq_true_eq, Bool.not_eq_true',
    List.any_eq_false, ne_eq]

/-- Settles O36: the write that the fill issues, the completion of one, and the end when it is due. -/
theorem initFill : Obligations.InitFill := by
  refine ⟨?issues, ?completes, ?ends⟩
  case issues =>
    intro s u filling left
    have row : exec .fillWriteIssue s = .next u.fillIssue := rfl
    clear_value u
    rw [row, u.fillIssue_next filling left, State.issueWrite_eq]
    rfl
  case completes =>
    intro s line op u completable
    have row : exec (.fillWriteComplete line) s = .next (u.fillDone line) := rfl
    clear_value u
    rw [u.fillDone_finishes line op completable] at row
    exact ⟨_, row, u.finishOp_opDone op, rfl⟩
  case ends =>
    intro s u filling issued noneLeft
    have row : exec .initFillEnd s = .next u.endFillIfDue := rfl
    clear_value u
    rw [row, State.endFillIfDue, if_pos (u.fillEndDue_iff.2 ⟨⟨filling, issued⟩, noneLeft⟩)]
    rfl

/-! ## The ends of a drain and of a waiting STOP (R177, R178, R182) -/

/-- The Open-Line Table is empty when no slot holds an entry (R177, R178). -/
theorem State.oltEmpty_iff (s : State) : s.oltEmpty = true ↔ ∀ k, s.entryAt k = none := by
  refine ⟨s.entryAt_of_oltEmpty, fun empty => List.all_eq_true.2 fun e mem => ?_⟩
  obtain ⟨k, inside, rfl⟩ := List.getElem_of_mem mem
  have slot : s.olt.slots[k] = none := by
    simpa [State.entryAt, List.getD_eq_getElem?_getD, List.getElem?_eq_getElem inside] using empty k
  rw [slot, Option.isNone_none]

/-- The drain condition part by part (R177). -/
theorem State.drained_iff (s : State) :
    s.drained = true ↔ (∀ p, (s.ports.get p).queue = []) ∧ (∀ k, s.entryAt k = none) ∧ s.copy.state = .idle ∧
      s.patrol.state ≠ .inFlight := by
  have queues : (∀ p, (s.ports.get p).queue = []) ↔ s.ports.p0.queue = [] ∧ s.ports.p1.queue = [] ∧
      s.ports.p2.queue = [] ∧ s.ports.p3.queue = [] := by
    refine ⟨fun h => ⟨h .p0, h .p1, h .p2, h .p3⟩, fun ⟨p0, p1, p2, p3⟩ p => ?_⟩
    cases p with
    | p0 => exact p0
    | p1 => exact p1
    | p2 => exact p2
    | p3 => exact p3
  simp only [State.drained, Bool.and_eq_true, List.isEmpty_iff, decide_eq_true_eq, s.oltEmpty_iff, queues, and_assoc]

/-- The command in progress by its slot (R187). -/
theorem State.runningIs_iff (s : State) (c : Command) :
    s.runningIs c = true ↔ ∃ r, s.cmd.running = some r ∧ r.command = c := by
  unfold State.runningIs
  cases s.cmd.running <;> simp

/-- Settles O37: each end is due under the conditions given, and enters STOPPED. -/
theorem drainsAndHaltedStopsEnd : Obligations.DrainsAndHaltedStopsEnd := by
  intro s u stopped
  have drainRow : exec .drainComplete s = .next u.endDrainIfDue := rfl
  have haltRow : exec .haltedStopComplete s = .next u.endHaltIfDue := rfl
  clear_value u
  refine ⟨fun draining queues table copy patrol => ?_, fun halted stop table => ?_⟩
  · have due : u.drainDue = true := by
      rw [State.drainDue, decide_eq_true draining, u.drained_iff.2 ⟨queues, table, copy, patrol⟩, Bool.and_self]
    rw [drainRow, State.endDrainIfDue, if_pos due]
    rfl
  · have due : u.haltedStopDue = true := by
      rw [State.haltedStopDue, decide_eq_true halted, (u.runningIs_iff .stop).2 stop, u.oltEmpty_iff.2 table,
        Bool.and_self, Bool.and_self]
    rw [haltRow, State.endHaltIfDue, if_pos due]
    rfl

/-! ## INIT, START and STOP (R171, R175, R176, R178) -/

/-- With a free slot INIT is tested and taken (R189). -/
theorem exec_init (s : State) (free : s.opened.slotFree) : exec .init s = .next (s.opened.tryTake .init) :=
  congrArg _ (s.opened.busWrite_cmdCode 1 free)

/-- With a free slot START is tested and taken (R189). -/
theorem exec_start (s : State) (free : s.opened.slotFree) : exec .start s = .next (s.opened.tryTake .start) :=
  congrArg _ (s.opened.busWrite_cmdCode 2 free)

/-- With a free slot STOP is tested and taken (R189). -/
theorem exec_stop (s : State) (free : s.opened.slotFree) : exec .stop s = .next (s.opened.tryTake .stop) :=
  congrArg _ (s.opened.busWrite_cmdCode 3 free)

section
variable (u : State)

/-- Without a candidate the Patrol Unit does not see the controller leave RUNNING (R119). -/
theorem State.patrolLeaveRunning_idle (idle : u.patrol.state ≠ .issuing) : u.patrolLeaveRunning = u := if_neg idle

/-- A candidate is withdrawn as the controller leaves RUNNING: the cursor goes back to its line, and the unit waits
(R110). -/
theorem State.patrolLeaveRunning_issuing (c : PatrolLine) (issuing : u.patrol.state = .issuing)
    (candidate : u.patrol.candidate = some c) :
    u.patrolLeaveRunning = (u.setPatrol { u.patrol with
      state := .waiting, timer := some u.patrol.interval, candidate := none, cursor := c.line }).clearWait := by
  rw [State.patrolLeaveRunning, if_pos issuing, u.patrol.setBack_candidate c candidate]
  rfl

/-- The controller's own change to DRAINING does not bear on the patrol's withdrawal (R110). -/
theorem State.patrolLeaveRunning_setCtl (ctl : Controller) :
    (u.setCtl ctl).patrolLeaveRunning = u.patrolLeaveRunning.setCtl ctl := by
  simp only [State.patrolLeaveRunning, apply_ite (fun x : State => x.setCtl ctl)]
  rfl

/-- STOP in RUNNING ends at once when the drain condition holds after the patrol's withdrawal, and otherwise holds the
slot in DRAINING (R176, R177). -/
theorem State.stopRunning_eq :
    u.stopRunning =
      if u.patrolLeaveRunning.drained then
        (u.patrolLeaveRunning.setCtl { u.ctl with state := .stopped, haltReason := .none }).done .done
      else (u.patrolLeaveRunning.setCtl { u.ctl with state := .draining }).held .stop := by
  rw [State.stopRunning, State.patrolLeaveRunning_setCtl]
  rfl

/-- STOP by the controller's state (R176, R178, R193): it acts in RUNNING, HALTED and STOPPED alone. -/
theorem State.tryTake_stop :
    (u.ctl.state = .running → u.tryTake .stop = u.stopRunning) ∧
    (u.ctl.state = .halted → u.tryTake .stop = u.stopHalted) ∧
    (u.ctl.state = .stopped → u.tryTake .stop = u.done .done) ∧
    (u.ctl.state = .uninit ∨ u.ctl.state = .initializing ∨ u.ctl.state = .draining →
      u.tryTake .stop = u.done .wrongState) := by
  refine ⟨fun state => ?_, fun state => ?_, fun state => ?_, fun state => ?_⟩
  · rw [u.tryTake_taken .stop (by rw [state]; rfl), State.take, State.takeStop, state]
  · rw [u.tryTake_taken .stop (by rw [state]; rfl), State.take, State.takeStop, state]
  · rw [u.tryTake_taken .stop (by rw [state]; rfl), State.take, State.takeStop, state]
    rfl
  · refine u.tryTake_wrongState .stop ?_
    rcases state with state | state | state <;> rw [state] <;> rfl

end

/-- Settles O38: each command is taken or refused by the controller's state; STOP in RUNNING goes by the patrol's
candidate and the drain condition, and in HALTED by the Open-Line Table. -/
theorem initStartAndStop : Obligations.InitStartAndStop := by
  intro s u free stopped drains
  have initRow : exec .init s = .next (u.tryTake .init) := exec_init s free
  have startRow : exec .start s = .next (u.tryTake .start) := exec_start s free
  have stopRow : exec .stop s = .next (u.tryTake .stop) := exec_stop s free
  clear_value u
  obtain ⟨running, halted, ended, wrongState⟩ := u.tryTake_stop
  have drains_of {v : State} (state : u.ctl.state = .running) (leaves : u.patrolLeaveRunning = v) : drains v := by
    have row : exec .stop s = .next u.stopRunning := stopRow.trans (congrArg _ (running state))
    rw [u.stopRunning_eq, leaves] at row
    exact ⟨fun drained => row.trans (congrArg _ (if_pos drained)),
      fun busy => row.trans (congrArg _ (if_neg (by simp [busy])))⟩
  refine ⟨fun state => ?_, fun state => ?_, fun state => ?_, fun notUninit notStopped => ?_,
    fun state => ⟨fun idle => ?_, fun c issuing candidate => ?_⟩, fun state => ⟨fun table => ?_, fun k e found => ?_⟩,
    fun state => ?_, fun state => ?_⟩
  · rw [startRow, u.tryTake_taken .start (decide_eq_true state)]
    rfl
  · rw [startRow, u.tryTake_wrongState .start (decide_eq_false state)]
  · rw [initRow, u.tryTake_taken .init (decide_eq_true state)]
    rfl
  · rw [initRow, u.tryTake_wrongState .init (decide_eq_false (not_or_intro notUninit notStopped))]
  · exact drains_of state (u.patrolLeaveRunning_idle idle)
  · exact drains_of state (u.patrolLeaveRunning_issuing c issuing candidate)
  · rw [stopRow, halted state, State.stopHalted, if_pos (u.oltEmpty_iff.2 table)]
    rfl
  · have occupied : u.oltEmpty ≠ true := fun empty => by simp [u.entryAt_of_oltEmpty empty k] at found
    rw [stopRow, halted state, State.stopHalted, if_neg occupied]
    rfl
  · rw [stopRow, ended state]
  · rw [stopRow, wrongState state]

end Sys2Proof.Machine
end

section
/-!
PROOFS. The resets: the values that each block takes, and what a warm reset keeps and stores (R16, R39, R183, R198); the
state after reset has every invariant.
-/

namespace Sys2Proof.Machine

/-! ## The state after reset (R198) -/

/-- Nothing is due in the state after reset. -/
theorem State.reset_settled : State.reset.settled = true := by decide +kernel

/-- Settles O60: the collections are empty and the units idle, so each invariant is a small fact of one state. -/
theorem resetHasEveryInvariant : Obligations.ResetHasEveryInvariant := by
  have fits : State.reset.fits := by decide +kernel
  have tagsHeld : State.reset.tagsHeld := by decide +kernel
  have openSound : State.reset.openSound := by decide +kernel
  have controlSound : State.reset.controlSound := by decide +kernel
  have suspectsBounded : State.reset.suspectsBounded := by decide
  exact ⟨rfl, fits, State.reset.regionsApart_of_valid_nil rfl, suspectsBounded, tagsHeld, openSound, controlSound,
    State.reset_settled⟩

/-! ## POWER_ON_RESET and RESET_RELEASE (R198) -/

/-- A power-on reset looks at nothing that the due steps change but the responses they formed (R157). -/
theorem State.powerOn_opened (s : State) : s.opened.powerOn = { State.reset with
    pins := { porst := true, wrst := s.pins.wrst }
    responses := s.opened.responses
    freeReads := s.freeReads
    pending := s.pending } := by
  obtain ⟨pins, -, -, -, freeReads, pending⟩ := s.opened_frame
  rw [State.powerOn, pins, freeReads, pending]

/-- Settles O5: the rows by their definitions; no due step changes the reset inputs. -/
theorem powerOnResetAndRelease : Obligations.PowerOnResetAndRelease := by
  refine ⟨fun s => congrArg _ s.powerOn_opened, fun s => ?_, fun s => ?_⟩
  · rw [← s.opened_frame.1]
    rfl
  · rw [← s.opened_frame.1]
    rfl

/-! ## WARM_RESET (R16, R183, R198) -/

/-- A warm reset leads to UNINIT from UNINIT and INITIALIZING, and from every other state to STOPPED (R183). -/
theorem Controller.warm_eq (c : Controller) :
    c.warm = if c.state = .uninit ∨ c.state = .initializing then
        { state := .uninit, haltReason := .none, initProgress := 0 }
      else { state := .stopped, haltReason := .none, initProgress := c.initProgress } := by
  cases state : c.state <;> simp [Controller.warm, state]

/-- Settles O6: the warm reset block by block; what a physical line holds afterwards is by the last write issued to
it. -/
theorem warmResetKeepsAndClears : Obligations.WarmResetKeepsAndClears := by
  refine ⟨fun s => ?_, fun ops m phys => ?_⟩
  · intro u
    rw [← u.ctl.warm_eq]
    rfl
  · refine ⟨applyAll_get_of_reads ops m phys, ?_⟩
    rintro a op b rfl rfl later
    rw [applyAll_get_last a b op m later, Memory.apply]
    refine ⟨fun l write => ?_, fun poison => ?_⟩
    · rw [write, Memory.get_set, if_pos rfl]
    · rw [poison, Memory.get_set, if_pos rfl, storedPoison]

end Sys2Proof.Machine
end

section
/-!
PROOFS. Maintenance commands: a write to CMD_CODE that is refused or names no code (R189, R190), the offers of RETIRE and
RELEASE (R194, R195), INJECT and CLEAR_SUSPECTS (R99, R196).
-/

namespace Sys2Proof.Machine

/-! ## Writes to CMD_CODE (R189, R190) -/

/-- The command rows, each with the value that it writes to CMD_CODE (R193). -/
def commandRows (code : Word32) : List (Word32 × Instr) :=
  [(code, .commandRefused code), (code, .unknownCommand code), (0x1, .init), (0x2, .start), (0x3, .stop),
    (0x4, .setRegion), (0x5, .clearRegion), (0x6, .retire), (0x7, .release), (0x8, .loadRemap), (0x9, .markSpareBad),
    (0xA, .scrub), (0xB, .inject), (0xC, .clearSuspects)]

/-- A command row is the write of its value to CMD_CODE (R189; log entry 13). -/
theorem exec_commandRow (s : State) (code : Word32) :
    ∀ x ∈ commandRows code, exec x.2 s = .next (s.commandWrite x.1) := by
  simp only [commandRows, List.forall_mem_cons, List.not_mem_nil, false_imp_iff, implies_true, and_true]
  exact ⟨rfl, rfl, rfl, rfl, rfl, rfl, rfl, rfl, rfl, rfl, rfl, rfl, rfl, rfl⟩

/-- A value that is no code names no command (R189, R193). -/
theorem commandOf_eq_none (code : Word32) (unknown : isCode code = false) : commandOf code = none := by
  have outside : ¬ (1 ≤ code.toNat ∧ code.toNat ≤ 12) := of_decide_eq_false unknown
  unfold commandOf
  split
  case h_13 => rfl
  all_goals omega

/-- While a command is in progress a write to CMD_CODE sets REFUSED and changes nothing else (R190). -/
theorem State.writeCode_busy (u : State) (code : Word32) (r : RunningCommand) (busy : u.cmd.running = some r) :
    u.writeCode code = { u with cmd := { u.cmd with refused := true } } :=
  if_pos (Option.isSome_of_eq_some busy)

/-- Settles O45: a free slot takes the value and finds no command; a busy slot refuses every command row. -/
theorem unknownAndRefusedCodes : Obligations.UnknownAndRefusedCodes := by
  refine ⟨fun s code => ?_, fun s code r => ?_⟩
  · intro u free unknown
    have taken : exec (.unknownCommand code) s = .next (u.takeCode code) :=
      congrArg _ (u.busWrite_cmdCode code free)
    rw [taken, State.takeCode, commandOf_eq_none code unknown, State.completeCommand_eq]
  · intro u porst wrst busy i listed
    have value : i ∈ (commandRows code).map Prod.snd := listed
    obtain ⟨x, row, rfl⟩ := List.mem_map.1 value
    rw [exec_commandRow s code x row, State.commandWrite, u.busWrite_full .cmdCode x.1 porst wrst]
    exact congrArg _ (u.writeCode_busy x.1 r busy)

/-! ## RETIRE and RELEASE (R194, R195) -/

/-- With a free slot RETIRE is tested and taken (R189). -/
theorem exec_retire (s : State) (free : s.opened.slotFree) : exec .retire s = .next (s.opened.tryTake .retire) :=
  congrArg _ (s.opened.busWrite_cmdCode 6 free)

/-- With a free slot RELEASE is tested and taken (R189). -/
theorem exec_release (s : State) (free : s.opened.slotFree) : exec .release s = .next (s.opened.tryTake .release) :=
  congrArg _ (s.opened.busWrite_cmdCode 7 free)

/-- A command's item by the queue's answer to its offer (R101): a refusal completes the command with its reason, an
accepted item joins the tail and the command holds the slot. -/
theorem State.offerCommandItem_eq (u : State) (c : Command) (line : Nat) (a : ItemAction) :
    ((∃ i ∈ u.rtq, i.line = line) ∨ u.lineCopying line = true →
      u.offerCommandItem c line a = u.done .alreadyPending) ∧
    ((∀ i ∈ u.rtq, i.line ≠ line) → u.lineCopying line = false → u.rtq.length < 8 →
      u.offerCommandItem c line a = ({ u with
        rtq := u.rtq ++ [{ line := line, action := a, origin := .command, command := true }] } : State).held c) ∧
    ((∀ i ∈ u.rtq, i.line ≠ line) → u.lineCopying line = false → 8 ≤ u.rtq.length →
      u.offerCommandItem c line a = u.done .queueFull) := by
  refine ⟨fun pending => ?_, fun fresh stable room => ?_, fun fresh stable full => ?_⟩
  · rw [State.offerCommandItem, u.rtqAnswer_pending line pending]
    rfl
  · rw [State.offerCommandItem, u.rtqAnswer_fresh line fresh stable, if_pos room]
    rfl
  · rw [State.offerCommandItem, u.rtqAnswer_fresh line fresh stable, if_neg full.not_gt]
    rfl

/-- Settles O41: outside RUNNING neither command is taken; in RUNNING each tests its line and offers its item. -/
theorem retireAndReleaseOffer : Obligations.RetireAndReleaseOffer := by
  intro s u free n offers
  have retireRow : exec .retire s = .next (u.tryTake .retire) := exec_retire s free
  have releaseRow : exec .release s = .next (u.tryTake .release) := exec_release s free
  clear_value u
  refine ⟨fun running => ?_, fun off => ⟨?_, ?_⟩⟩
  · rw [u.tryTake_taken .retire (decide_eq_true running)] at retireRow
    rw [u.tryTake_taken .release (decide_eq_true running)] at releaseRow
    have offers_of {i : Instr} {c : Command} {a : ItemAction} (row : exec i s = .next (u.offerCommandItem c n a)) :
        offers i c a := by
      obtain ⟨pending, accepted, full⟩ := u.offerCommandItem_eq c n a
      exact ⟨fun h => row.trans (congrArg _ (pending h)),
        fun fresh stable room => row.trans (congrArg _ (accepted fresh stable room)),
        fun fresh stable noRoom => row.trans (congrArg _ (full fresh stable noRoom))⟩
    refine ⟨fun outside => ⟨?_, ?_⟩, fun inside => ⟨offers_of ?_, offers_of ?_⟩⟩
    · rw [retireRow, State.take, State.takeRetire, if_pos outside, State.completeCommand_eq]
    · rw [releaseRow, State.take, State.takeRelease, if_pos outside, State.completeCommand_eq]
    · rw [retireRow, State.take, State.takeRetire, if_neg inside.not_ge]
    · rw [releaseRow, State.take, State.takeRelease, if_neg inside.not_ge]
  · rw [retireRow, u.tryTake_wrongState .retire (decide_eq_false off)]
  · rw [releaseRow, u.tryTake_wrongState .release (decide_eq_false off)]

/-! ## INJECT and CLEAR_SUSPECTS (R14, R99, R196) -/

/-- With a free slot INJECT is tested and taken (R189). -/
theorem exec_inject (s : State) (free : s.opened.slotFree) : exec .inject s = .next (s.opened.tryTake .inject) :=
  congrArg _ (s.opened.busWrite_cmdCode 11 free)

/-- With a free slot CLEAR_SUSPECTS is tested and taken (R189). -/
theorem exec_clearSuspects (s : State) (free : s.opened.slotFree) :
    exec .clearSuspects s = .next (s.opened.tryTake .clearSuspects) :=
  congrArg _ (s.opened.busWrite_cmdCode 12 free)

/-- Settles O44: INJECT by the controller's state and its argument tests; CLEAR_SUSPECTS is taken in every state. -/
theorem injectAndClearSuspects : Obligations.InjectAndClearSuspects := by
  intro s u free ok inj armed
  have injectRow : exec .inject s = .next (u.tryTake .inject) := exec_inject s free
  have clearRow : exec .clearSuspects s = .next (u.tryTake .clearSuspects) := exec_clearSuspects s free
  clear_value u
  have ok_iff : u.injectOk = true ↔ ok := decide_eq_true_iff
  refine ⟨fun taken => ?_, fun notRunning notStopped => ?_, ?_⟩
  · rw [injectRow, u.tryTake_taken .inject (decide_eq_true taken), State.take, State.takeInject]
    refine ⟨fun bad => ?_, fun good => ?_⟩
    · rw [if_neg (mt ok_iff.1 bad), State.completeCommand_eq]
    · rw [if_pos (ok_iff.2 good)]
      rfl
  · rw [injectRow, u.tryTake_wrongState .inject (decide_eq_false (not_or_intro notRunning notStopped))]
  · rw [clearRow, u.tryTake_taken .clearSuspects rfl]
    rfl

end Sys2Proof.Machine
end

section
/-!
PROOFS. The register window (R184 to R188, R197, R198, 11.5): which writes act and what they set, what every word reads,
and what the words read in the state after reset.
-/

namespace Sys2Proof.Machine

/-! ## Writes (R184, R185) -/

/-- A write at an offset that the map names is a write of its word (R184). -/
theorem State.windowWrite_at (u : State) (o : BitVec 12) (r : Reg) (be : Enables) (v : Word32)
    (named : regAt o = some r) : u.windowWrite o be v = u.busWrite r be v := by
  rw [State.windowWrite, named]

/-- A write without all four byte enables or during a reset is ignored at every offset (R184, R198). -/
theorem State.windowWrite_ignored (u : State) (o : BitVec 12) (be : Enables) (v : Word32)
    (ignored : be ≠ 15 ∨ u.pins.porst = true ∨ u.pins.wrst = true) : u.windowWrite o be v = u := by
  unfold State.windowWrite
  split
  · rfl
  next r _ => exact u.busWrite_ignored r be v ignored

/-- A REGISTER_WRITE at an offset that the map names is the write of its word (R184). -/
theorem exec_registerWrite (s : State) (o : BitVec 12) (r : Reg) (be : Enables) (v : Word32)
    (named : regAt o = some r) : exec (.registerWrite o be v) s = .next (s.opened.busWrite r be v) :=
  congrArg _ (s.opened.windowWrite_at o r be v named)

/-- A full REGISTER_WRITE outside reset at an offset that the map names acts on its word (R184, R198). -/
theorem exec_registerWrite_full (s : State) (o : BitVec 12) (r : Reg) (v : Word32) (porst : s.opened.pins.porst = false)
    (wrst : s.opened.pins.wrst = false) (named : regAt o = some r) :
    exec (.registerWrite o 15 v) s = .next (s.opened.writeReg r v) :=
  (exec_registerWrite s o r 15 v named).trans (congrArg _ (s.opened.busWrite_full r v porst wrst))

/-- A command row is the full write of its value at CMD_CODE's offset (R189, R193; log entries 13 and 25). -/
theorem exec_registerWrite_commandRow (s : State) (code : Word32) (x : Word32 × Instr) (row : x ∈ commandRows code) :
    exec (.registerWrite 0x040 15 x.1) s = exec x.2 s :=
  (exec_registerWrite s 0x040 .cmdCode 15 x.1 (by decide)).trans (exec_commandRow s code x row).symm

/-- During a reset a command row is ignored, as every write is (R198). -/
theorem exec_commandRow_inReset (s : State) (code : Word32) (x : Word32 × Instr) (row : x ∈ commandRows code)
    (reset : s.opened.pins.porst = true ∨ s.opened.pins.wrst = true) : exec x.2 s = .next s.opened :=
  (exec_commandRow s code x row).trans (congrArg _ (s.opened.busWrite_ignored .cmdCode 15 x.1 (.inr reset)))

/-- SPARE_CFG takes a level up to 127 and ignores every other (R29). -/
theorem State.writeSpareCfg_eq (u : State) (v : Word32) :
    ((v.extractLsb' 0 8).toNat ≤ 127 →
      u.writeSpareCfg v = { u with pool := { u.pool with lowLevel := (v.extractLsb' 0 8).toNat } }) ∧
    (127 < (v.extractLsb' 0 8).toNat → u.writeSpareCfg v = u) :=
  ⟨fun level => if_pos level, fun high => if_neg high.not_ge⟩

/-- The counters' words, by their offsets (11.5). -/
def counterWords : List (BitVec 12 × Counter) :=
  [(0x0C0, .corrected), (0x0C4, .uncorrectable), (0x0C8, .poison), (0x0CC, .poisonSeen), (0x0D0, .lostMinor),
    (0x0D4, .lostMajor), (0x0D8, .suspectEvict), (0x0DC, .suspectDrop), (0x0E0, .patrolLines), (0x0E4, .patrolSkipped),
    (0x0E8, .sweeps), (0x0EC, .retired), (0x0F0, .retireFailed), (0x0F4, .rtqFull)]

theorem regAt_counterWords : ∀ x ∈ counterWords, regAt x.1 = some (.counter x.2) := by decide

/-- The ports' status words, by their offsets (11.5). -/
def portWords : List (BitVec 12 × PortId) := [(0x180, .p0), (0x184, .p1), (0x188, .p2), (0x18C, .p3)]

theorem regAt_portWords : ∀ x ∈ portWords, regAt x.1 = some (.portStatus x.2) := by decide +kernel

/-! ## The map (11.5) -/

/-- The words below 100h. -/
theorem regLow_named : ∀ o : BitVec 12, o.toNat % 4 = 0 → o.toNat < 0x100 → (regLow o.toNat).isSome →
    o ∈ writableOffsets ∨ o ∈ [0x000, 0x004, 0x008, 0x020, 0x028, 0x02C, 0x080, 0x084, 0x088, 0x08C, 0x094] := by
  decide +kernel

/-- The words from 100h on lie in the ranges of the views. -/
theorem regView_named (o : Nat) (named : (regView o).isSome) :
    0x100 ≤ o ∧ o < 0x190 ∨ 0x200 ≤ o ∧ o < 0x2A0 ∨ 0x400 ≤ o ∧ o < 0xA00 := by
  by_contra outside
  have absent : regView o = none := by
    rw [regView, if_neg (by omega), if_neg (by omega), if_neg (by omega), if_neg (by omega), if_neg (by omega),
      if_neg (by omega)]
  simp [absent] at named

/-- The offsets that the map names: aligned ones, of single words or in a view (R184). -/
theorem regAt_named (o : BitVec 12) (r : Reg) (named : regAt o = some r) : o.toNat % 4 = 0 ∧
    (o ∈ writableOffsets ∨ o ∈ [0x000, 0x004, 0x008, 0x020, 0x028, 0x02C, 0x080, 0x084, 0x088, 0x08C, 0x094] ∨
      0x100 ≤ o.toNat ∧ o.toNat < 0x190 ∨ 0x200 ≤ o.toNat ∧ o.toNat < 0x2A0 ∨
      0x400 ≤ o.toNat ∧ o.toNat < 0xA00) := by
  unfold regAt at named
  split at named
  · cases named
  next aligned =>
    have aligned := Decidable.not_not.1 aligned
    refine ⟨aligned, ?_⟩
    split at named
    next low =>
      rcases regLow_named o aligned low (Option.isSome_of_eq_some named) with single | single
      · exact .inl single
      · exact .inr (.inl single)
    · exact .inr (.inr (regView_named o.toNat (Option.isSome_of_eq_some named)))

/-! ## The fields of a word (11.5) -/

theorem field_zero (lo : Nat) : field 0 lo = 0 := by simp [field]

theorem flag_false (n : Nat) : flag false n = 0 := field_zero n

/-- A flag is a 1 in its bit, or nothing. -/
theorem flag_eq (b : Bool) (n : Nat) : flag b n = if b then field 1 n else 0 := by
  cases b with
  | false => exact flag_false n
  | true => rfl

/-- HOME has neither a spare number nor the kind bit. -/
theorem Loc.fields_home : field Loc.home.spareNumber 16 ||| flag Loc.home.kindBit 23 = 0 := by decide

/-- Word 2 of a record, with its place in one piece. -/
theorem Record.word_two (r : Record) : r.word 2 =
    field (r.mask.getD 0).toNat 0 ||| field (r.repeats.getD 0) 8 |||
      (field (r.place.getD .home).spareNumber 16 ||| flag (r.place.getD .home).kindBit 23) |||
      field (r.spare.getD 0) 24 := by
  simp only [Record.word, BitVec.or_assoc]

/-- Word 3 of a record is the code of its detail, and zero without one. -/
theorem Record.word_three (r : Record) : r.word 3 = field ((r.detail.map Detail.code).getD 0) 0 := by
  unfold Record.word
  cases r.detail with
  | none => exact (field_zero 0).symm
  | some d => rfl

/-- Word 1 of a suspect, with its place in one piece. -/
theorem Suspect.word_one (e : Suspect) : e.word 1 =
    field e.count 0 ||| field e.mask.toNat 8 ||| (field e.place.spareNumber 16 ||| flag e.place.kindBit 23) := by
  simp only [Suspect.word, BitVec.or_assoc]

/-- Word 1 of a remap entry: the spares and the moves that its state has, and its origin (R17, R24). -/
theorem RemapEntry.word_one (e : RemapEntry) :
    (∀ c m, e.state = .active c m →
      e.word 1 = field c 0 ||| field 1 7 ||| field m 16 ||| field e.origin.code 24) ∧
    (∀ t, e.state = .copying t → e.word 1 = field t 8 ||| field 1 15 ||| field e.origin.code 24) ∧
    (∀ c t m, e.state = .moving c t m →
      e.word 1 = field c 0 ||| field 1 7 ||| field t 8 ||| field 1 15 ||| field m 16 ||| field e.origin.code 24) ∧
    (∀ c m, e.state = .releasing c m →
      e.word 1 = field c 0 ||| field 1 7 ||| field m 16 ||| field e.origin.code 24) := by
  refine ⟨fun c m state => ?_, fun t state => ?_, fun c t m state => ?_, fun c m state => ?_⟩ <;>
    simp [RemapEntry.word, state, RemapState.current?, RemapState.target?, RemapState.moves?, flag_eq, field_zero]

/-! ## Reads of the collections (R186) -/

section
variable (s : State) (porst : s.pins.porst = false) (wrst : s.pins.wrst = false) (k w : Nat)
include porst wrst

/-- The region view: a valid entry's words, and zero for an invalid one (R145). -/
theorem State.readWindow_regionView (hk : k < 8) (hw : w < 4) :
    (∀ g, s.settle.regions.entries[k]? = some (some g) →
      s.readWindow (BitVec.ofNat 12 (0x100 + 4 * w + 16 * k)) = g.word w) ∧
    (s.settle.regions.entries[k]? = some none → s.readWindow (BitVec.ofNat 12 (0x100 + 4 * w + 16 * k)) = 0) := by
  rw [Nat.add_right_comm, s.readWindow_eq _ _ porst wrst (regAt_regionView k hk w hw), State.viewReg,
    List.getD_eq_getElem?_getD]
  refine ⟨fun g valid => ?_, fun invalid => ?_⟩
  · rw [valid, Option.getD_some, viewOf]
  · rw [invalid, Option.getD_some, viewOf]

/-- The suspect view: the words of a held position, and zero for an empty one (R89). -/
theorem State.readWindow_suspectView (hk : k < 16) (hw : w < 2) :
    (∀ e, s.settle.suspects.entries[k]? = some e →
      s.readWindow (BitVec.ofNat 12 (0x200 + 4 * w + 8 * k)) = e.word w) ∧
    (s.settle.suspects.entries[k]? = none → s.readWindow (BitVec.ofNat 12 (0x200 + 4 * w + 8 * k)) = 0) := by
  rw [Nat.add_right_comm, s.readWindow_eq _ _ porst wrst (regAt_suspectView k hk w hw), State.viewReg]
  refine ⟨fun e found => ?_, fun absent => ?_⟩
  · rw [found, viewOf]
  · rw [absent, viewOf]

/-- The Retirement Queue's view: the word of a held position, and zero for an empty one (R100). -/
theorem State.readWindow_rtqView (hk : k < 8) :
    (∀ i, s.settle.rtq[k]? = some i → s.readWindow (BitVec.ofNat 12 (0x280 + 4 * k)) = i.word) ∧
    (s.settle.rtq[k]? = none → s.readWindow (BitVec.ofNat 12 (0x280 + 4 * k)) = 0) := by
  rw [s.readWindow_eq _ _ porst wrst (regAt_rtqView k hk), State.viewReg]
  refine ⟨fun i found => ?_, fun absent => ?_⟩
  · rw [found, viewOf]
  · rw [absent, viewOf]

/-- The remap table's view: the words of a slot's entry, and zero for an empty slot (R24). -/
theorem State.readWindow_lrtView (hk : k < 128) (hw : w < 2) :
    (∀ e, s.settle.lrt.slots[k]? = some (some e) →
      s.readWindow (BitVec.ofNat 12 (0x400 + 4 * w + 8 * k)) = e.word w) ∧
    (s.settle.lrt.slots[k]? = some none → s.readWindow (BitVec.ofNat 12 (0x400 + 4 * w + 8 * k)) = 0) := by
  rw [Nat.add_right_comm, s.readWindow_eq _ _ porst wrst (regAt_lrtView k hk w hw), State.viewReg,
    List.getD_eq_getElem?_getD]
  refine ⟨fun e found => ?_, fun absent => ?_⟩
  · rw [found, Option.getD_some, viewOf]
  · rw [absent, Option.getD_some, viewOf]

/-- The spare view: the code of each spare's state (R25). -/
theorem State.readWindow_spareView (hk : k < 128) (x : SpareState) (found : s.settle.pool.spares[k]? = some x) :
    s.readWindow (BitVec.ofNat 12 (0x800 + 4 * k)) = field x.code 0 := by
  rw [s.readWindow_eq _ _ porst wrst (regAt_spareView k hk), State.viewReg, found, viewOf]

/-- The head record's words (R131). -/
theorem State.readWindow_head (x : Record) (rest : List Record) (records : s.settle.erq.records = x :: rest) :
    s.readWindow 0x080 = x.word 0 ∧ s.readWindow 0x084 = x.word 1 ∧ s.readWindow 0x088 = x.word 2 ∧
      s.readWindow 0x08C = x.word 3 := by
  have head (o : BitVec 12) (i : Nat) (named : regAt o = some (.recHead i)) : s.readWindow o = x.word i := by
    rw [s.readWindow_eq o _ porst wrst named, State.viewReg, records, List.head?_cons, viewOf]
  exact ⟨head _ 0 (by decide), head _ 1 (by decide), head _ 2 (by decide), head _ 3 (by decide)⟩

/-- Without a record the head's words are zero (R186). -/
theorem State.readWindow_noRecord (empty : s.settle.erq.records = []) :
    ∀ o ∈ [(0x080 : BitVec 12), 0x084, 0x088, 0x08C], s.readWindow o = 0 := by
  have head (o : BitVec 12) (i : Nat) (named : regAt o = some (.recHead i)) : s.readWindow o = 0 := by
    rw [s.readWindow_eq o _ porst wrst named, State.viewReg, empty, List.head?_nil, viewOf]
  simp only [List.forall_mem_cons, List.not_mem_nil, false_imp_iff, implies_true, and_true]
  exact ⟨head _ 0 (by decide), head _ 1 (by decide), head _ 2 (by decide), head _ 3 (by decide)⟩

end

/-- During a reset every word reads as zero (R198). -/
theorem State.readWindow_inReset (s : State) (o : BitVec 12) (reset : s.pins.porst = true ∨ s.pins.wrst = true) :
    s.readWindow o = 0 :=
  if_pos (Bool.or_eq_true_iff.2 reset)

/-- An offset that the map does not name reads as zero (R184). -/
theorem State.readWindow_unnamed (s : State) (o : BitVec 12) (unnamed : regAt o = none) : s.readWindow o = 0 := by
  rw [State.readWindow, unnamed]
  exact ite_self 0

/-! ## The obligation (R184 to R186, 11.5) -/

/-- Settles O49: a write is ignored, or is the write of the word at its offset; a read gives the word at its offset of
the settled state, field by field. -/
theorem registerWindow : Obligations.RegisterWindow := by
  unfold Obligations.RegisterWindow
  intro counters writable
  refine ⟨fun s v => ?writes, fun s => ?reads⟩
  case writes =>
    intro u w g
    have ignored (o : BitVec 12) (be : Enables) (h : be ≠ 15 ∨ u.pins.porst = true ∨ u.pins.wrst = true) :
        exec (.registerWrite o be v) s = .next u :=
      congrArg _ (u.windowWrite_ignored o be v h)
    have readOnly (o : BitVec 12) (h : o ∉ writableOffsets) : exec (.registerWrite o 15 v) s = .next u :=
      congrArg _ (u.windowWrite_readOnly o 15 v h)
    have full (porst : u.pins.porst = false) (wrst : u.pins.wrst = false) (o : BitVec 12) (r : Reg)
        (named : regAt o = some r) : exec (.registerWrite o 15 v) s = .next (u.writeReg r v) :=
      exec_registerWrite_full s o r v porst wrst named
    have commands : ∀ x ∈ commandRows v, exec (.registerWrite 0x040 15 x.1) s = exec x.2 s ∧
        (u.pins.porst = true ∨ u.pins.wrst = true → exec x.2 s = .next u) :=
      fun x row => ⟨exec_registerWrite_commandRow s v x row, exec_commandRow_inReset s v x row⟩
    clear_value u
    refine ⟨fun o be => ⟨_, rfl⟩, ignored, readOnly, fun porst wrst => ?_, fun be => ⟨?_, fun x counter => ?_⟩,
      commands⟩
    · have sets := full porst wrst
      obtain ⟨level, high⟩ := u.writeSpareCfg_eq v
      exact ⟨sets 0x014 .policy (by decide),
        fun h => (sets 0x024 .spareCfg (by decide)).trans (congrArg _ (level h)),
        fun h => (sets 0x024 .spareCfg (by decide)).trans (congrArg _ (high h)),
        sets 0x044 .cmdArg0 (by decide), sets 0x048 .cmdArg1 (by decide), sets 0x04C .cmdArg2 (by decide),
        sets 0x060 .stageA (by decide), sets 0x064 .stageB (by decide), sets 0x068 .stageC (by decide)⟩
    · have row (o : BitVec 12) (r : Reg) (named : regAt o = some r) :
          exec (.registerWrite o be v) s = .next (s.opened.busWrite r be v) :=
        exec_registerWrite s o r be v named
      simp only [List.forall_mem_cons, List.not_mem_nil, false_imp_iff, implies_true, and_true]
      exact ⟨row 0x010 .arrayCfg (by decide), row 0x018 .suspectCfg (by decide), row 0x01C .patrolCfg (by decide),
        row 0x050 .cmdStatus (by decide), row 0x090 .recPop (by decide), row 0x0A0 .irqCause (by decide),
        row 0x0A4 .irqEnable (by decide)⟩
    · exact exec_registerWrite s x.1 (.counter x.2) be v (regAt_counterWords x counter)
  case reads =>
    intro v r num bit at_ flags causes place named
    have num_eq : num = field := rfl
    have bit_eq : bit = flag := funext fun b => funext fun n => (flag_eq b n).symm
    have place_eq (l : Loc) : place l = field l.spareNumber 16 ||| flag l.kindBit 23 := by
      cases l with
      | home => exact Loc.fields_home.symm
      | spare n => rfl
    clear_value num bit place
    subst num_eq bit_eq
    refine ⟨fun reset o => s.readWindow_inReset o reset, fun o unnamed => ?_, fun porst wrst => ?_⟩
    · refine s.readWindow_unnamed o ?_
      cases at_o : regAt o with
      | none => rfl
      | some x => exact absurd (regAt_named o x at_o) unnamed
    have reads (o : BitVec 12) (x : Reg) (at_o : regAt o = some x) : r o = v.viewReg x :=
      s.readWindow_eq o x porst wrst at_o
    refine ⟨reads _ .id (by decide), reads _ .state (by decide), reads _ .initProgress (by decide),
      reads _ .arrayCfg (by decide), reads _ .policy (by decide), reads _ .suspectCfg (by decide),
      reads _ .patrolCfg (by decide), reads _ .patrolCursor (by decide), reads _ .spareCfg (by decide),
      reads _ .spareCounts (by decide), reads _ .lrtGen (by decide), reads _ .cmdCode (by decide),
      reads _ .cmdArg0 (by decide), reads _ .cmdArg1 (by decide), reads _ .cmdArg2 (by decide),
      reads _ .cmdStatus (by decide), reads _ .stageA (by decide), reads _ .stageB (by decide),
      reads _ .stageC (by decide), reads _ .recPop (by decide), reads _ .recLevel (by decide),
      reads _ .irqCause (by decide), reads _ .irqEnable (by decide),
      fun x counter => reads x.1 (.counter x.2) (regAt_counterWords x counter),
      s.readWindow_noRecord porst wrst, ?head, ?regions,
      fun x port => reads x.1 (.portStatus x.2) (regAt_portWords x port), ?suspects,
      fun k => s.readWindow_rtqView porst wrst k, ?remaps, fun n hn x => s.readWindow_spareView porst wrst n hn x⟩
    case head =>
      intro x rest records
      obtain ⟨word0, word1, word2, word3⟩ := s.readWindow_head porst wrst x rest records
      refine ⟨word0.trans ?_, word1, ?_, word3.trans ?_⟩
      · rw [Record.word]
        cases x.source with
        | port p => cases p <;> rfl
        | _ => rfl
      · rw [place_eq, ← x.word_two]
        exact word2
      · rw [x.word_three]
        cases x.detail with
        | none => rfl
        | some d =>
          cases d with
          | denied reason => cases reason <;> rfl
          | poisonedFlag b => rfl
          | sweepNumber n => rfl
    case regions =>
      refine fun k hk => ⟨fun g valid => ?_, fun invalid w hw => ?_⟩
      · have word (w : Nat) (hw : w < 4) : r (at_ (0x100 + 4 * w + 16 * k)) = g.word w :=
          (s.readWindow_regionView porst wrst k w hk hw).1 g valid
        exact ⟨word 0 (by decide), word 1 (by decide), word 2 (by decide), word 3 (by decide)⟩
      · rw [Nat.add_right_comm]
        exact (s.readWindow_regionView porst wrst k w hk hw).2 invalid
    case suspects =>
      intro k hk
      obtain ⟨held0, empty0⟩ := s.readWindow_suspectView porst wrst k 0 hk (by decide)
      obtain ⟨held1, empty1⟩ := s.readWindow_suspectView porst wrst k 1 hk (by decide)
      refine ⟨fun e found => ⟨held0 e found, ?_⟩, fun absent => ⟨empty0 absent, empty1 absent⟩⟩
      rw [place_eq, ← e.word_one]
      exact held1 e found
    case remaps =>
      intro k hk
      obtain ⟨held0, empty0⟩ := s.readWindow_lrtView porst wrst k 0 hk (by decide)
      obtain ⟨held1, empty1⟩ := s.readWindow_lrtView porst wrst k 1 hk (by decide)
      refine ⟨fun e found => ?_, fun absent => ⟨empty0 absent, empty1 absent⟩⟩
      intro origin words
      have words_of {state : Nat} {x : Word32} (code : e.state.code = state) (one : e.word 1 = x ||| origin) :
          words state x :=
        ⟨code ▸ held0 e found, (held1 e found).trans one⟩
      obtain ⟨active, copying, moving, releasing⟩ := e.word_one
      exact ⟨fun c m state => words_of (by rw [state]; rfl) (active c m state),
        fun t state => words_of (by rw [state]; rfl) (copying t state),
        fun c t m state => words_of (by rw [state]; rfl) (moving c t m state),
        fun c m state => words_of (by rw [state]; rfl) (releasing c m state)⟩

/-! ## The state after reset (R186, 11.5) -/

/-- The words that do not read as zero after reset, each with its offset and its value. -/
def resetWords : List ((BitVec 12 × Word32) × Reg) :=
  [((0x000, 0x00058001), .id), ((0x014, 8), .policy), ((0x018, 4), .suspectCfg), ((0x01C, 0x00640000), .patrolCfg),
    ((0x024, 8), .spareCfg), ((0x028, 0x80), .spareCounts)]

theorem resetWords_values :
    ∀ x ∈ resetWords, regAt x.1.1 = some x.2 ∧ State.reset.viewReg x.2 = x.1.2 := by decide +kernel

/-- Each of these words stands at its own offset alone. -/
theorem resetWords_offsets : ∀ o : BitVec 12, ∀ r ∈ regAt o, ∀ x ∈ resetWords, x.2 = r → x.1.1 = o := by
  decide +kernel

/-- A table of empty slots has nothing in any slot. -/
theorem getD_replicate_none {α : Type} (n k : Nat) : (List.replicate n (none : Option α)).getD k none = none := by
  rw [List.getD_eq_getElem?_getD, List.getElem?_getD_replicate_default_eq]

/-- Every other word reads as zero after reset: its block is idle, its collection holds nothing, or its spare is
FREE. -/
theorem State.reset_viewReg (r : Reg) (other : r ∉ resetWords.map Prod.snd) : State.reset.viewReg r = 0 := by
  cases r with
  | id | policy | suspectCfg | patrolCfg | spareCfg | spareCounts => simp [resetWords] at other
  | counter c => cases c <;> rfl
  | portStatus p => cases p <;> rfl
  | regionView k w => rw [State.viewReg, State.reset, getD_replicate_none, viewOf]
  | lrtView k w => rw [State.viewReg, State.reset, getD_replicate_none, viewOf]
  | spareView n =>
    rw [State.viewReg, State.reset, List.getElem?_replicate]
    split
    · exact field_zero 0
    · rfl
  | _ => rfl

/-- With nothing due the window and the pins show the state as it stands. -/
theorem State.reset_settle : State.reset.settle = State.reset := State.reset.settle_of_settled State.reset_settled

theorem State.reset_readWindow : ∀ x ∈ resetWords.map Prod.fst, State.reset.readWindow x.1 = x.2 := by
  intro y member
  obtain ⟨x, listed, rfl⟩ := List.mem_map.1 member
  obtain ⟨named, value⟩ := resetWords_values x listed
  rw [State.reset.readWindow_eq x.1.1 x.2 rfl rfl named, State.reset_settle, value]

theorem State.reset_readWindow_zero (o : BitVec 12) (other : o ∉ (resetWords.map Prod.fst).map (fun x => x.1)) :
    State.reset.readWindow o = 0 := by
  cases named : regAt o with
  | none => exact State.reset.readWindow_unnamed o named
  | some r =>
    rw [State.reset.readWindow_eq o r rfl rfl named, State.reset_settle]
    refine State.reset_viewReg r fun word => other ?_
    obtain ⟨x, listed, rfl⟩ := List.mem_map.1 word
    exact List.mem_map.2 ⟨x.1, List.mem_map_of_mem listed, resetWords_offsets o x.2 named x listed rfl⟩

/-- Settles O4: the blocks by their reset values; the words by the map and the settled state. -/
theorem resetValues : Obligations.ResetValues := by
  have noEntry (line : Nat) : State.reset.entryOf line = none :=
    (findEntry_eq_none_iff _ line).2 fun e mem => by cases (mem : e ∈ [])
  have noOpenEntry (k : Nat) : State.reset.entryAt k = none := getD_replicate_none 8 k
  have noRegion (line : Nat) : State.reset.regionOf line = none := rfl
  have noCause (c : Cause) : State.reset.irq.latched.get c = false ∧ State.reset.irq.enable.get c = false := by
    cases c <;> exact ⟨rfl, rfl⟩
  have irqHigh : State.reset.irqPin = true := by
    rw [State.irqPin, State.reset_settle]
    rfl
  have ports (p : PortId) : State.reset.ports.get p = { queue := [], tags := [] } ∧ State.reset.readyPin p = true := by
    rw [State.readyPin, State.reset_settle]
    cases p <;> exact ⟨rfl, rfl⟩
  have counters (c : Counter) : State.reset.counters.get c = 0 := by cases c <;> rfl
  exact ⟨rfl, rfl, rfl, rfl, fun p => rfl, rfl, noEntry, rfl, rfl, rfl, noOpenEntry, rfl, rfl, rfl, rfl, rfl, noCause, rfl,
    irqHigh, rfl, noRegion, ports, rfl, rfl, rfl, counters, State.reset_readWindow, State.reset_readWindow_zero⟩

end Sys2Proof.Machine
end

section
/-!
PROOFS. A step on a queue that is not empty: the front command acts on the state with the rest of the queue.
-/

namespace Sys2Proof.Machine

/-- Settles O1: on a queue with a front command a step is the second case of its definition, and setting the queue
is the update of that one field. -/
theorem stepRunsFrontCommand : Obligations.StepRunsFrontCommand := by
  intro s c rest front
  calc
    step s = exec c (s.setPending rest) := by rw [step, front]
    _ = exec c { s with pending := rest } := by rw [State.setPending]

end Sys2Proof.Machine
end
